-- ==== Sys2Proof/Word.lean ====
section
/-! DEFINITION. The two word types of the machine. Every register but the program counter, every memory cell and
every operand byte is a byte; addresses and the program counter are 16 bits (`00_scope.md` R6, `10_state.md` R10).
Arithmetic on them wraps in the width (`10_state.md` R25, `44_arithmetic_compare_bit.md` R109). -/

namespace Sys2Proof

/-- The data width: 8 bits (`00_scope.md` R6). -/
abbrev Byte := BitVec 8

/-- The address width: 16 bits, 65536 bytes (`20_memory.md` R32). -/
abbrev Addr := BitVec 16

end Sys2Proof
end

