-- ==== Sys2Proof/Machine/Bits.lean ====
section
/-! DEFINITION. The byte-order and extension helpers of `00_scope.md` section 6. -/

namespace Sys2Proof

/-- The concatenation of a high and a low byte, `h * 256 + l`. -/
def joinBytes (h l : Byte) : Addr := BitVec.ofNat 16 (h.toNat * 256 + l.toNat)

/-- `hi(w) = w[15:8]`. -/
def hiByte (w : Addr) : Byte := BitVec.ofNat 8 (w.toNat / 256)

/-- `lo(w) = w[7:0]`. -/
def loByte (w : Addr) : Byte := BitVec.ofNat 8 (w.toNat % 256)

/-- `zext_16(b)`: the byte as a 16-bit word. -/
def zext16 (b : Byte) : Addr := b.setWidth 16

/-- `sext_8(b)` as a 16-bit two's-complement word: the signed value of the byte, modulo 65536. -/
def sext16 (b : Byte) : Addr := b.signExtend 16

/-- A condition used as a bit value: 1 when true, 0 when false. -/
def bitOf (c : Bool) : Nat := if c then 1 else 0

end Sys2Proof
end

