-- ==== Sys2Proof/Config.lean ====
section
/-! DEFINITION. The parameters of `00_scope.md` R6, each at the value the spec gives this hardware, and what a byte of
memory that nothing has written reads as. The operations that depend on a parameter take it as an argument, so the
other settings of `92_eei_decisions.md` are modelled too; the machine of `Machine/` uses the values of this file. -/

namespace Sys2Proof.Config

/-- The two ways an instruction reaches the core (`92_eei_decisions.md` D1). -/
inductive FrontEnd where
  /-- The core fetches and decodes the bytes at `PC` (`48_dispatch_and_step.md` R150). -/
  | bytes
  /-- The host hands the core a decoded record (`48_dispatch_and_step.md` R143). -/
  | record
  deriving DecidableEq, Repr

/-- `RESET_PC`, the program counter after reset (`10_state.md` R15, D9). -/
def resetPc : Addr := 0x0000

/-- `TXS_UPDATES_NZ`, whether TXS updates N and Z (`41_load_store_transfer.md` R85, D5). -/
def txsUpdatesNZ : Bool := true

/-- `ILLEGAL_LENGTH`, the length of an illegal opcode byte (`30_encoding.md` R53, D13). `BRK_LENGTH` = 1 (D14) is the length
of mode IMP and has no definition of its own. -/
def illegalLength : Nat := 1

/-- What a byte of memory that nothing has written reads as. `MEM_INIT` is open (`10_state.md` R26, D11).
DESIGN CHOICE, unsafe: zero fill, one of the contents the spec names (log entry 2). -/
def unlistedByte : Byte := 0x00

end Sys2Proof.Config
end

