-- ==== Sys2Proof/Syntax.lean ====
section
/-! DEFINITION. The instruction set as syntax: one constructor for each of the 151 rows of `opcode_table.json`, the
admitted (mnemonic, mode) pairs of `30_encoding.md` R52, with the operand bytes of the row's mode (R47, R49). A
constructor is named by its mnemonic and, where the mnemonic has several modes, its mode. -/

namespace Sys2Proof

/-- A machine instruction. `op1` is the byte after the opcode byte, `op2` the one after that (`30_encoding.md` R48). -/
inductive Instr where
  /-- `LDA #op1`, mode IMM, opcode byte A9 (R74). -/
  | ldaImm (op1 : Byte)
  /-- `LDA op1`, mode ZP, opcode byte A5 (R74). -/
  | ldaZp (op1 : Byte)
  /-- `LDA op1,X`, mode ZPX, opcode byte B5 (R74). -/
  | ldaZpx (op1 : Byte)
  /-- `LDA op2op1`, mode ABS, opcode byte AD (R74). -/
  | ldaAbs (op1 op2 : Byte)
  /-- `LDA op2op1,X`, mode ABX, opcode byte BD (R74). -/
  | ldaAbx (op1 op2 : Byte)
  /-- `LDA op2op1,Y`, mode ABY, opcode byte B9 (R74). -/
  | ldaAby (op1 op2 : Byte)
  /-- `LDA (op1,X)`, mode IZX, opcode byte A1 (R74). -/
  | ldaIzx (op1 : Byte)
  /-- `LDA (op1),Y`, mode IZY, opcode byte B1 (R74). -/
  | ldaIzy (op1 : Byte)
  /-- `LDX #op1`, mode IMM, opcode byte A2 (R75). -/
  | ldxImm (op1 : Byte)
  /-- `LDX op1`, mode ZP, opcode byte A6 (R75). -/
  | ldxZp (op1 : Byte)
  /-- `LDX op1,Y`, mode ZPY, opcode byte B6 (R75). -/
  | ldxZpy (op1 : Byte)
  /-- `LDX op2op1`, mode ABS, opcode byte AE (R75). -/
  | ldxAbs (op1 op2 : Byte)
  /-- `LDX op2op1,Y`, mode ABY, opcode byte BE (R75). -/
  | ldxAby (op1 op2 : Byte)
  /-- `LDY #op1`, mode IMM, opcode byte A0 (R76). -/
  | ldyImm (op1 : Byte)
  /-- `LDY op1`, mode ZP, opcode byte A4 (R76). -/
  | ldyZp (op1 : Byte)
  /-- `LDY op1,X`, mode ZPX, opcode byte B4 (R76). -/
  | ldyZpx (op1 : Byte)
  /-- `LDY op2op1`, mode ABS, opcode byte AC (R76). -/
  | ldyAbs (op1 op2 : Byte)
  /-- `LDY op2op1,X`, mode ABX, opcode byte BC (R76). -/
  | ldyAbx (op1 op2 : Byte)
  /-- `STA op1`, mode ZP, opcode byte 85 (R77). -/
  | staZp (op1 : Byte)
  /-- `STA op1,X`, mode ZPX, opcode byte 95 (R77). -/
  | staZpx (op1 : Byte)
  /-- `STA op2op1`, mode ABS, opcode byte 8D (R77). -/
  | staAbs (op1 op2 : Byte)
  /-- `STA op2op1,X`, mode ABX, opcode byte 9D (R77). -/
  | staAbx (op1 op2 : Byte)
  /-- `STA op2op1,Y`, mode ABY, opcode byte 99 (R77). -/
  | staAby (op1 op2 : Byte)
  /-- `STA (op1,X)`, mode IZX, opcode byte 81 (R77). -/
  | staIzx (op1 : Byte)
  /-- `STA (op1),Y`, mode IZY, opcode byte 91 (R77). -/
  | staIzy (op1 : Byte)
  /-- `STX op1`, mode ZP, opcode byte 86 (R78). -/
  | stxZp (op1 : Byte)
  /-- `STX op1,Y`, mode ZPY, opcode byte 96 (R78). -/
  | stxZpy (op1 : Byte)
  /-- `STX op2op1`, mode ABS, opcode byte 8E (R78). -/
  | stxAbs (op1 op2 : Byte)
  /-- `STY op1`, mode ZP, opcode byte 84 (R79). -/
  | styZp (op1 : Byte)
  /-- `STY op1,X`, mode ZPX, opcode byte 94 (R79). -/
  | styZpx (op1 : Byte)
  /-- `STY op2op1`, mode ABS, opcode byte 8C (R79). -/
  | styAbs (op1 op2 : Byte)
  /-- `TAX`, mode IMP, opcode byte AA (R80). -/
  | tax
  /-- `TAY`, mode IMP, opcode byte A8 (R81). -/
  | tay
  /-- `TXA`, mode IMP, opcode byte 8A (R82). -/
  | txa
  /-- `TYA`, mode IMP, opcode byte 98 (R83). -/
  | tya
  /-- `TSX`, mode IMP, opcode byte BA (R84). -/
  | tsx
  /-- `TXS`, mode IMP, opcode byte 9A (R85). -/
  | txs
  /-- `AND #op1`, mode IMM, opcode byte 29 (R86). -/
  | andImm (op1 : Byte)
  /-- `AND op1`, mode ZP, opcode byte 25 (R86). -/
  | andZp (op1 : Byte)
  /-- `AND op1,X`, mode ZPX, opcode byte 35 (R86). -/
  | andZpx (op1 : Byte)
  /-- `AND op2op1`, mode ABS, opcode byte 2D (R86). -/
  | andAbs (op1 op2 : Byte)
  /-- `AND op2op1,X`, mode ABX, opcode byte 3D (R86). -/
  | andAbx (op1 op2 : Byte)
  /-- `AND op2op1,Y`, mode ABY, opcode byte 39 (R86). -/
  | andAby (op1 op2 : Byte)
  /-- `AND (op1,X)`, mode IZX, opcode byte 21 (R86). -/
  | andIzx (op1 : Byte)
  /-- `AND (op1),Y`, mode IZY, opcode byte 31 (R86). -/
  | andIzy (op1 : Byte)
  /-- `ORA #op1`, mode IMM, opcode byte 09 (R87). -/
  | oraImm (op1 : Byte)
  /-- `ORA op1`, mode ZP, opcode byte 05 (R87). -/
  | oraZp (op1 : Byte)
  /-- `ORA op1,X`, mode ZPX, opcode byte 15 (R87). -/
  | oraZpx (op1 : Byte)
  /-- `ORA op2op1`, mode ABS, opcode byte 0D (R87). -/
  | oraAbs (op1 op2 : Byte)
  /-- `ORA op2op1,X`, mode ABX, opcode byte 1D (R87). -/
  | oraAbx (op1 op2 : Byte)
  /-- `ORA op2op1,Y`, mode ABY, opcode byte 19 (R87). -/
  | oraAby (op1 op2 : Byte)
  /-- `ORA (op1,X)`, mode IZX, opcode byte 01 (R87). -/
  | oraIzx (op1 : Byte)
  /-- `ORA (op1),Y`, mode IZY, opcode byte 11 (R87). -/
  | oraIzy (op1 : Byte)
  /-- `EOR #op1`, mode IMM, opcode byte 49 (R88). -/
  | eorImm (op1 : Byte)
  /-- `EOR op1`, mode ZP, opcode byte 45 (R88). -/
  | eorZp (op1 : Byte)
  /-- `EOR op1,X`, mode ZPX, opcode byte 55 (R88). -/
  | eorZpx (op1 : Byte)
  /-- `EOR op2op1`, mode ABS, opcode byte 4D (R88). -/
  | eorAbs (op1 op2 : Byte)
  /-- `EOR op2op1,X`, mode ABX, opcode byte 5D (R88). -/
  | eorAbx (op1 op2 : Byte)
  /-- `EOR op2op1,Y`, mode ABY, opcode byte 59 (R88). -/
  | eorAby (op1 op2 : Byte)
  /-- `EOR (op1,X)`, mode IZX, opcode byte 41 (R88). -/
  | eorIzx (op1 : Byte)
  /-- `EOR (op1),Y`, mode IZY, opcode byte 51 (R88). -/
  | eorIzy (op1 : Byte)
  /-- `INC op1`, mode ZP, opcode byte E6 (R89). -/
  | incZp (op1 : Byte)
  /-- `INC op1,X`, mode ZPX, opcode byte F6 (R89). -/
  | incZpx (op1 : Byte)
  /-- `INC op2op1`, mode ABS, opcode byte EE (R89). -/
  | incAbs (op1 op2 : Byte)
  /-- `INC op2op1,X`, mode ABX, opcode byte FE (R89). -/
  | incAbx (op1 op2 : Byte)
  /-- `DEC op1`, mode ZP, opcode byte C6 (R90). -/
  | decZp (op1 : Byte)
  /-- `DEC op1,X`, mode ZPX, opcode byte D6 (R90). -/
  | decZpx (op1 : Byte)
  /-- `DEC op2op1`, mode ABS, opcode byte CE (R90). -/
  | decAbs (op1 op2 : Byte)
  /-- `DEC op2op1,X`, mode ABX, opcode byte DE (R90). -/
  | decAbx (op1 op2 : Byte)
  /-- `INX`, mode IMP, opcode byte E8 (R91). -/
  | inx
  /-- `INY`, mode IMP, opcode byte C8 (R92). -/
  | iny
  /-- `DEX`, mode IMP, opcode byte CA (R93). -/
  | dex
  /-- `DEY`, mode IMP, opcode byte 88 (R94). -/
  | dey
  /-- `ASL A`, mode ACC, opcode byte 0A (R96). -/
  | aslAcc
  /-- `ASL op1`, mode ZP, opcode byte 06 (R96). -/
  | aslZp (op1 : Byte)
  /-- `ASL op1,X`, mode ZPX, opcode byte 16 (R96). -/
  | aslZpx (op1 : Byte)
  /-- `ASL op2op1`, mode ABS, opcode byte 0E (R96). -/
  | aslAbs (op1 op2 : Byte)
  /-- `ASL op2op1,X`, mode ABX, opcode byte 1E (R96). -/
  | aslAbx (op1 op2 : Byte)
  /-- `LSR A`, mode ACC, opcode byte 4A (R97). -/
  | lsrAcc
  /-- `LSR op1`, mode ZP, opcode byte 46 (R97). -/
  | lsrZp (op1 : Byte)
  /-- `LSR op1,X`, mode ZPX, opcode byte 56 (R97). -/
  | lsrZpx (op1 : Byte)
  /-- `LSR op2op1`, mode ABS, opcode byte 4E (R97). -/
  | lsrAbs (op1 op2 : Byte)
  /-- `LSR op2op1,X`, mode ABX, opcode byte 5E (R97). -/
  | lsrAbx (op1 op2 : Byte)
  /-- `ROL A`, mode ACC, opcode byte 2A (R98). -/
  | rolAcc
  /-- `ROL op1`, mode ZP, opcode byte 26 (R98). -/
  | rolZp (op1 : Byte)
  /-- `ROL op1,X`, mode ZPX, opcode byte 36 (R98). -/
  | rolZpx (op1 : Byte)
  /-- `ROL op2op1`, mode ABS, opcode byte 2E (R98). -/
  | rolAbs (op1 op2 : Byte)
  /-- `ROL op2op1,X`, mode ABX, opcode byte 3E (R98). -/
  | rolAbx (op1 op2 : Byte)
  /-- `ROR A`, mode ACC, opcode byte 6A (R99). -/
  | rorAcc
  /-- `ROR op1`, mode ZP, opcode byte 66 (R99). -/
  | rorZp (op1 : Byte)
  /-- `ROR op1,X`, mode ZPX, opcode byte 76 (R99). -/
  | rorZpx (op1 : Byte)
  /-- `ROR op2op1`, mode ABS, opcode byte 6E (R99). -/
  | rorAbs (op1 op2 : Byte)
  /-- `ROR op2op1,X`, mode ABX, opcode byte 7E (R99). -/
  | rorAbx (op1 op2 : Byte)
  /-- `ADC #op1`, mode IMM, opcode byte 69 (R101). -/
  | adcImm (op1 : Byte)
  /-- `ADC op1`, mode ZP, opcode byte 65 (R101). -/
  | adcZp (op1 : Byte)
  /-- `ADC op1,X`, mode ZPX, opcode byte 75 (R101). -/
  | adcZpx (op1 : Byte)
  /-- `ADC op2op1`, mode ABS, opcode byte 6D (R101). -/
  | adcAbs (op1 op2 : Byte)
  /-- `ADC op2op1,X`, mode ABX, opcode byte 7D (R101). -/
  | adcAbx (op1 op2 : Byte)
  /-- `ADC op2op1,Y`, mode ABY, opcode byte 79 (R101). -/
  | adcAby (op1 op2 : Byte)
  /-- `ADC (op1,X)`, mode IZX, opcode byte 61 (R101). -/
  | adcIzx (op1 : Byte)
  /-- `ADC (op1),Y`, mode IZY, opcode byte 71 (R101). -/
  | adcIzy (op1 : Byte)
  /-- `SBC #op1`, mode IMM, opcode byte E9 (R102). -/
  | sbcImm (op1 : Byte)
  /-- `SBC op1`, mode ZP, opcode byte E5 (R102). -/
  | sbcZp (op1 : Byte)
  /-- `SBC op1,X`, mode ZPX, opcode byte F5 (R102). -/
  | sbcZpx (op1 : Byte)
  /-- `SBC op2op1`, mode ABS, opcode byte ED (R102). -/
  | sbcAbs (op1 op2 : Byte)
  /-- `SBC op2op1,X`, mode ABX, opcode byte FD (R102). -/
  | sbcAbx (op1 op2 : Byte)
  /-- `SBC op2op1,Y`, mode ABY, opcode byte F9 (R102). -/
  | sbcAby (op1 op2 : Byte)
  /-- `SBC (op1,X)`, mode IZX, opcode byte E1 (R102). -/
  | sbcIzx (op1 : Byte)
  /-- `SBC (op1),Y`, mode IZY, opcode byte F1 (R102). -/
  | sbcIzy (op1 : Byte)
  /-- `CMP #op1`, mode IMM, opcode byte C9 (R105). -/
  | cmpImm (op1 : Byte)
  /-- `CMP op1`, mode ZP, opcode byte C5 (R105). -/
  | cmpZp (op1 : Byte)
  /-- `CMP op1,X`, mode ZPX, opcode byte D5 (R105). -/
  | cmpZpx (op1 : Byte)
  /-- `CMP op2op1`, mode ABS, opcode byte CD (R105). -/
  | cmpAbs (op1 op2 : Byte)
  /-- `CMP op2op1,X`, mode ABX, opcode byte DD (R105). -/
  | cmpAbx (op1 op2 : Byte)
  /-- `CMP op2op1,Y`, mode ABY, opcode byte D9 (R105). -/
  | cmpAby (op1 op2 : Byte)
  /-- `CMP (op1,X)`, mode IZX, opcode byte C1 (R105). -/
  | cmpIzx (op1 : Byte)
  /-- `CMP (op1),Y`, mode IZY, opcode byte D1 (R105). -/
  | cmpIzy (op1 : Byte)
  /-- `CPX #op1`, mode IMM, opcode byte E0 (R106). -/
  | cpxImm (op1 : Byte)
  /-- `CPX op1`, mode ZP, opcode byte E4 (R106). -/
  | cpxZp (op1 : Byte)
  /-- `CPX op2op1`, mode ABS, opcode byte EC (R106). -/
  | cpxAbs (op1 op2 : Byte)
  /-- `CPY #op1`, mode IMM, opcode byte C0 (R107). -/
  | cpyImm (op1 : Byte)
  /-- `CPY op1`, mode ZP, opcode byte C4 (R107). -/
  | cpyZp (op1 : Byte)
  /-- `CPY op2op1`, mode ABS, opcode byte CC (R107). -/
  | cpyAbs (op1 op2 : Byte)
  /-- `BIT op1`, mode ZP, opcode byte 24 (R108). -/
  | bitZp (op1 : Byte)
  /-- `BIT op2op1`, mode ABS, opcode byte 2C (R108). -/
  | bitAbs (op1 op2 : Byte)
  /-- `PHA`, mode IMP, opcode byte 48 (R115). -/
  | pha
  /-- `PHP`, mode IMP, opcode byte 08 (R116). -/
  | php
  /-- `PLA`, mode IMP, opcode byte 68 (R117). -/
  | pla
  /-- `PLP`, mode IMP, opcode byte 28 (R118). -/
  | plp
  /-- `JMP op2op1`, mode ABS, opcode byte 4C (R119). -/
  | jmpAbs (op1 op2 : Byte)
  /-- `JMP (op2op1)`, mode IND, opcode byte 6C (R119). -/
  | jmpInd (op1 op2 : Byte)
  /-- `JSR op2op1`, mode ABS, opcode byte 20 (R120). -/
  | jsr (op1 op2 : Byte)
  /-- `RTS`, mode IMP, opcode byte 60 (R121). -/
  | rts
  /-- `BPL *+op1`, mode REL, opcode byte 10 (R123). -/
  | bpl (op1 : Byte)
  /-- `BMI *+op1`, mode REL, opcode byte 30 (R124). -/
  | bmi (op1 : Byte)
  /-- `BVC *+op1`, mode REL, opcode byte 50 (R125). -/
  | bvc (op1 : Byte)
  /-- `BVS *+op1`, mode REL, opcode byte 70 (R126). -/
  | bvs (op1 : Byte)
  /-- `BCC *+op1`, mode REL, opcode byte 90 (R127). -/
  | bcc (op1 : Byte)
  /-- `BCS *+op1`, mode REL, opcode byte B0 (R128). -/
  | bcs (op1 : Byte)
  /-- `BNE *+op1`, mode REL, opcode byte D0 (R129). -/
  | bne (op1 : Byte)
  /-- `BEQ *+op1`, mode REL, opcode byte F0 (R130). -/
  | beq (op1 : Byte)
  /-- `CLC`, mode IMP, opcode byte 18 (R133). -/
  | clc
  /-- `SEC`, mode IMP, opcode byte 38 (R134). -/
  | sec
  /-- `CLI`, mode IMP, opcode byte 58 (R135). -/
  | cli
  /-- `SEI`, mode IMP, opcode byte 78 (R136). -/
  | sei
  /-- `CLV`, mode IMP, opcode byte B8 (R137). -/
  | clv
  /-- `CLD`, mode IMP, opcode byte D8 (R138). -/
  | cld
  /-- `SED`, mode IMP, opcode byte F8 (R139). -/
  | sed
  /-- `NOP`, mode IMP, opcode byte EA (R140). -/
  | nop
  /-- `BRK`, mode IMP, opcode byte 00 (R141). -/
  | brk
  /-- `RTI`, mode IMP, opcode byte 40 (R142). -/
  | rti
  deriving DecidableEq, Repr

end Sys2Proof
end

