-- ==== Sys2Proof/Machine/Record.lean ====
section
/-! DEFINITION. The decoded record of `30_encoding.md` R47, the form in which the core takes an instruction: the
mnemonics, the addressing modes, an operand form for each mode, and the record of each machine instruction. -/

namespace Sys2Proof

/-- The 13 addressing modes (`40_addressing_and_operands.md` R57). -/
inductive Mode where
  | imp | acc | imm | zp | zpx | zpy | abs | abx | aby | ind | izx | izy | rel
  deriving DecidableEq, Repr

/-- The 56 mnemonics (`30_encoding.md` R51), the keys of the dispatch table (`48_dispatch_and_step.md` R145). -/
inductive Mnemonic where
  | lda | ldx | ldy | sta | stx | sty | tax | tay | txa | tya | tsx | txs
  | and | ora | eor | inc | dec | inx | iny | dex | dey
  | asl | lsr | rol | ror
  | adc | sbc | cmp | cpx | cpy | bit
  | pha | php | pla | plp
  | jmp | jsr | rts | bpl | bmi | bvc | bvs | bcc | bcs | bne | beq
  | clc | sec | cli | sei | clv | cld | sed | nop | brk | rti
  deriving DecidableEq, Repr

/-- A mode with the operand bytes it carries (`30_encoding.md` R47): `op1` the first operand byte, `op2` the second. -/
inductive Operand where
  | imp
  | acc
  | imm (op1 : Byte)
  | zp (op1 : Byte)
  | zpx (op1 : Byte)
  | zpy (op1 : Byte)
  | abs (op1 op2 : Byte)
  | abx (op1 op2 : Byte)
  | aby (op1 op2 : Byte)
  | ind (op1 op2 : Byte)
  | izx (op1 : Byte)
  | izy (op1 : Byte)
  | rel (op1 : Byte)
  deriving DecidableEq, Repr

/-- The identity a record gives its instruction (`10_state.md` R28): one of the 56 mnemonics, or any other. -/
inductive RecordOpcode where
  | known (mnemonic : Mnemonic)
  | unknown (name : String)
  deriving DecidableEq, Repr

/-- The instruction record as the host hands it over (`30_encoding.md` R47, `10_state.md` R28), well formed or not. -/
structure Record where
  opcode : RecordOpcode
  mode : Mode
  op1 : Option Byte
  op2 : Option Byte
  length : Nat
  deriving DecidableEq, Repr

/-- The number of operand bytes of a mode (`30_encoding.md` R47). -/
def Mode.operandBytes : Mode → Nat
  | .imp => 0
  | .acc => 0
  | .imm => 1
  | .zp => 1
  | .zpx => 1
  | .zpy => 1
  | .abs => 2
  | .abx => 2
  | .aby => 2
  | .ind => 2
  | .izx => 1
  | .izy => 1
  | .rel => 1

/-- `ins.length`: one opcode byte and the operand bytes of the mode (`30_encoding.md` R47). -/
def Mode.length (mode : Mode) : Nat := 1 + mode.operandBytes

/-- The mode of an operand form. -/
def Operand.mode : Operand → Mode
  | .imp => .imp
  | .acc => .acc
  | .imm _ => .imm
  | .zp _ => .zp
  | .zpx _ => .zpx
  | .zpy _ => .zpy
  | .abs _ _ => .abs
  | .abx _ _ => .abx
  | .aby _ _ => .aby
  | .ind _ _ => .ind
  | .izx _ => .izx
  | .izy _ => .izy
  | .rel _ => .rel

/-- The operand bytes of an operand form, in the order they follow the opcode byte (`30_encoding.md` R48). -/
def Operand.bytes : Operand → List Byte
  | .imp => []
  | .acc => []
  | .imm op1 => [op1]
  | .zp op1 => [op1]
  | .zpx op1 => [op1]
  | .zpy op1 => [op1]
  | .abs op1 op2 => [op1, op2]
  | .abx op1 op2 => [op1, op2]
  | .aby op1 op2 => [op1, op2]
  | .ind op1 op2 => [op1, op2]
  | .izx op1 => [op1]
  | .izy op1 => [op1]
  | .rel op1 => [op1]

/-- The operand form that a mode and the operand bytes of a record make, if they are the bytes the mode needs. -/
def operandFrom (mode : Mode) (op1 op2 : Option Byte) : Option Operand :=
  match mode, op1, op2 with
  | .imp, none, none => some .imp
  | .acc, none, none => some .acc
  | .imm, some b1, none => some (.imm b1)
  | .zp, some b1, none => some (.zp b1)
  | .zpx, some b1, none => some (.zpx b1)
  | .zpy, some b1, none => some (.zpy b1)
  | .abs, some b1, some b2 => some (.abs b1 b2)
  | .abx, some b1, some b2 => some (.abx b1 b2)
  | .aby, some b1, some b2 => some (.aby b1 b2)
  | .ind, some b1, some b2 => some (.ind b1 b2)
  | .izx, some b1, none => some (.izx b1)
  | .izy, some b1, none => some (.izy b1)
  | .rel, some b1, none => some (.rel b1)
  | _, _, _ => none

/-- The mnemonic of an instruction (`30_encoding.md` R51). -/
def mnemonicOf : Instr → Mnemonic
  | .ldaImm _ => .lda
  | .ldaZp _ => .lda
  | .ldaZpx _ => .lda
  | .ldaAbs _ _ => .lda
  | .ldaAbx _ _ => .lda
  | .ldaAby _ _ => .lda
  | .ldaIzx _ => .lda
  | .ldaIzy _ => .lda
  | .ldxImm _ => .ldx
  | .ldxZp _ => .ldx
  | .ldxZpy _ => .ldx
  | .ldxAbs _ _ => .ldx
  | .ldxAby _ _ => .ldx
  | .ldyImm _ => .ldy
  | .ldyZp _ => .ldy
  | .ldyZpx _ => .ldy
  | .ldyAbs _ _ => .ldy
  | .ldyAbx _ _ => .ldy
  | .staZp _ => .sta
  | .staZpx _ => .sta
  | .staAbs _ _ => .sta
  | .staAbx _ _ => .sta
  | .staAby _ _ => .sta
  | .staIzx _ => .sta
  | .staIzy _ => .sta
  | .stxZp _ => .stx
  | .stxZpy _ => .stx
  | .stxAbs _ _ => .stx
  | .styZp _ => .sty
  | .styZpx _ => .sty
  | .styAbs _ _ => .sty
  | .tax => .tax
  | .tay => .tay
  | .txa => .txa
  | .tya => .tya
  | .tsx => .tsx
  | .txs => .txs
  | .andImm _ => .and
  | .andZp _ => .and
  | .andZpx _ => .and
  | .andAbs _ _ => .and
  | .andAbx _ _ => .and
  | .andAby _ _ => .and
  | .andIzx _ => .and
  | .andIzy _ => .and
  | .oraImm _ => .ora
  | .oraZp _ => .ora
  | .oraZpx _ => .ora
  | .oraAbs _ _ => .ora
  | .oraAbx _ _ => .ora
  | .oraAby _ _ => .ora
  | .oraIzx _ => .ora
  | .oraIzy _ => .ora
  | .eorImm _ => .eor
  | .eorZp _ => .eor
  | .eorZpx _ => .eor
  | .eorAbs _ _ => .eor
  | .eorAbx _ _ => .eor
  | .eorAby _ _ => .eor
  | .eorIzx _ => .eor
  | .eorIzy _ => .eor
  | .incZp _ => .inc
  | .incZpx _ => .inc
  | .incAbs _ _ => .inc
  | .incAbx _ _ => .inc
  | .decZp _ => .dec
  | .decZpx _ => .dec
  | .decAbs _ _ => .dec
  | .decAbx _ _ => .dec
  | .inx => .inx
  | .iny => .iny
  | .dex => .dex
  | .dey => .dey
  | .aslAcc => .asl
  | .aslZp _ => .asl
  | .aslZpx _ => .asl
  | .aslAbs _ _ => .asl
  | .aslAbx _ _ => .asl
  | .lsrAcc => .lsr
  | .lsrZp _ => .lsr
  | .lsrZpx _ => .lsr
  | .lsrAbs _ _ => .lsr
  | .lsrAbx _ _ => .lsr
  | .rolAcc => .rol
  | .rolZp _ => .rol
  | .rolZpx _ => .rol
  | .rolAbs _ _ => .rol
  | .rolAbx _ _ => .rol
  | .rorAcc => .ror
  | .rorZp _ => .ror
  | .rorZpx _ => .ror
  | .rorAbs _ _ => .ror
  | .rorAbx _ _ => .ror
  | .adcImm _ => .adc
  | .adcZp _ => .adc
  | .adcZpx _ => .adc
  | .adcAbs _ _ => .adc
  | .adcAbx _ _ => .adc
  | .adcAby _ _ => .adc
  | .adcIzx _ => .adc
  | .adcIzy _ => .adc
  | .sbcImm _ => .sbc
  | .sbcZp _ => .sbc
  | .sbcZpx _ => .sbc
  | .sbcAbs _ _ => .sbc
  | .sbcAbx _ _ => .sbc
  | .sbcAby _ _ => .sbc
  | .sbcIzx _ => .sbc
  | .sbcIzy _ => .sbc
  | .cmpImm _ => .cmp
  | .cmpZp _ => .cmp
  | .cmpZpx _ => .cmp
  | .cmpAbs _ _ => .cmp
  | .cmpAbx _ _ => .cmp
  | .cmpAby _ _ => .cmp
  | .cmpIzx _ => .cmp
  | .cmpIzy _ => .cmp
  | .cpxImm _ => .cpx
  | .cpxZp _ => .cpx
  | .cpxAbs _ _ => .cpx
  | .cpyImm _ => .cpy
  | .cpyZp _ => .cpy
  | .cpyAbs _ _ => .cpy
  | .bitZp _ => .bit
  | .bitAbs _ _ => .bit
  | .pha => .pha
  | .php => .php
  | .pla => .pla
  | .plp => .plp
  | .jmpAbs _ _ => .jmp
  | .jmpInd _ _ => .jmp
  | .jsr _ _ => .jsr
  | .rts => .rts
  | .bpl _ => .bpl
  | .bmi _ => .bmi
  | .bvc _ => .bvc
  | .bvs _ => .bvs
  | .bcc _ => .bcc
  | .bcs _ => .bcs
  | .bne _ => .bne
  | .beq _ => .beq
  | .clc => .clc
  | .sec => .sec
  | .cli => .cli
  | .sei => .sei
  | .clv => .clv
  | .cld => .cld
  | .sed => .sed
  | .nop => .nop
  | .brk => .brk
  | .rti => .rti

/-- The operand form of an instruction (`30_encoding.md` R51 for its mode). -/
def operandOf : Instr → Operand
  | .ldaImm op1 => .imm op1
  | .ldaZp op1 => .zp op1
  | .ldaZpx op1 => .zpx op1
  | .ldaAbs op1 op2 => .abs op1 op2
  | .ldaAbx op1 op2 => .abx op1 op2
  | .ldaAby op1 op2 => .aby op1 op2
  | .ldaIzx op1 => .izx op1
  | .ldaIzy op1 => .izy op1
  | .ldxImm op1 => .imm op1
  | .ldxZp op1 => .zp op1
  | .ldxZpy op1 => .zpy op1
  | .ldxAbs op1 op2 => .abs op1 op2
  | .ldxAby op1 op2 => .aby op1 op2
  | .ldyImm op1 => .imm op1
  | .ldyZp op1 => .zp op1
  | .ldyZpx op1 => .zpx op1
  | .ldyAbs op1 op2 => .abs op1 op2
  | .ldyAbx op1 op2 => .abx op1 op2
  | .staZp op1 => .zp op1
  | .staZpx op1 => .zpx op1
  | .staAbs op1 op2 => .abs op1 op2
  | .staAbx op1 op2 => .abx op1 op2
  | .staAby op1 op2 => .aby op1 op2
  | .staIzx op1 => .izx op1
  | .staIzy op1 => .izy op1
  | .stxZp op1 => .zp op1
  | .stxZpy op1 => .zpy op1
  | .stxAbs op1 op2 => .abs op1 op2
  | .styZp op1 => .zp op1
  | .styZpx op1 => .zpx op1
  | .styAbs op1 op2 => .abs op1 op2
  | .tax => .imp
  | .tay => .imp
  | .txa => .imp
  | .tya => .imp
  | .tsx => .imp
  | .txs => .imp
  | .andImm op1 => .imm op1
  | .andZp op1 => .zp op1
  | .andZpx op1 => .zpx op1
  | .andAbs op1 op2 => .abs op1 op2
  | .andAbx op1 op2 => .abx op1 op2
  | .andAby op1 op2 => .aby op1 op2
  | .andIzx op1 => .izx op1
  | .andIzy op1 => .izy op1
  | .oraImm op1 => .imm op1
  | .oraZp op1 => .zp op1
  | .oraZpx op1 => .zpx op1
  | .oraAbs op1 op2 => .abs op1 op2
  | .oraAbx op1 op2 => .abx op1 op2
  | .oraAby op1 op2 => .aby op1 op2
  | .oraIzx op1 => .izx op1
  | .oraIzy op1 => .izy op1
  | .eorImm op1 => .imm op1
  | .eorZp op1 => .zp op1
  | .eorZpx op1 => .zpx op1
  | .eorAbs op1 op2 => .abs op1 op2
  | .eorAbx op1 op2 => .abx op1 op2
  | .eorAby op1 op2 => .aby op1 op2
  | .eorIzx op1 => .izx op1
  | .eorIzy op1 => .izy op1
  | .incZp op1 => .zp op1
  | .incZpx op1 => .zpx op1
  | .incAbs op1 op2 => .abs op1 op2
  | .incAbx op1 op2 => .abx op1 op2
  | .decZp op1 => .zp op1
  | .decZpx op1 => .zpx op1
  | .decAbs op1 op2 => .abs op1 op2
  | .decAbx op1 op2 => .abx op1 op2
  | .inx => .imp
  | .iny => .imp
  | .dex => .imp
  | .dey => .imp
  | .aslAcc => .acc
  | .aslZp op1 => .zp op1
  | .aslZpx op1 => .zpx op1
  | .aslAbs op1 op2 => .abs op1 op2
  | .aslAbx op1 op2 => .abx op1 op2
  | .lsrAcc => .acc
  | .lsrZp op1 => .zp op1
  | .lsrZpx op1 => .zpx op1
  | .lsrAbs op1 op2 => .abs op1 op2
  | .lsrAbx op1 op2 => .abx op1 op2
  | .rolAcc => .acc
  | .rolZp op1 => .zp op1
  | .rolZpx op1 => .zpx op1
  | .rolAbs op1 op2 => .abs op1 op2
  | .rolAbx op1 op2 => .abx op1 op2
  | .rorAcc => .acc
  | .rorZp op1 => .zp op1
  | .rorZpx op1 => .zpx op1
  | .rorAbs op1 op2 => .abs op1 op2
  | .rorAbx op1 op2 => .abx op1 op2
  | .adcImm op1 => .imm op1
  | .adcZp op1 => .zp op1
  | .adcZpx op1 => .zpx op1
  | .adcAbs op1 op2 => .abs op1 op2
  | .adcAbx op1 op2 => .abx op1 op2
  | .adcAby op1 op2 => .aby op1 op2
  | .adcIzx op1 => .izx op1
  | .adcIzy op1 => .izy op1
  | .sbcImm op1 => .imm op1
  | .sbcZp op1 => .zp op1
  | .sbcZpx op1 => .zpx op1
  | .sbcAbs op1 op2 => .abs op1 op2
  | .sbcAbx op1 op2 => .abx op1 op2
  | .sbcAby op1 op2 => .aby op1 op2
  | .sbcIzx op1 => .izx op1
  | .sbcIzy op1 => .izy op1
  | .cmpImm op1 => .imm op1
  | .cmpZp op1 => .zp op1
  | .cmpZpx op1 => .zpx op1
  | .cmpAbs op1 op2 => .abs op1 op2
  | .cmpAbx op1 op2 => .abx op1 op2
  | .cmpAby op1 op2 => .aby op1 op2
  | .cmpIzx op1 => .izx op1
  | .cmpIzy op1 => .izy op1
  | .cpxImm op1 => .imm op1
  | .cpxZp op1 => .zp op1
  | .cpxAbs op1 op2 => .abs op1 op2
  | .cpyImm op1 => .imm op1
  | .cpyZp op1 => .zp op1
  | .cpyAbs op1 op2 => .abs op1 op2
  | .bitZp op1 => .zp op1
  | .bitAbs op1 op2 => .abs op1 op2
  | .pha => .imp
  | .php => .imp
  | .pla => .imp
  | .plp => .imp
  | .jmpAbs op1 op2 => .abs op1 op2
  | .jmpInd op1 op2 => .ind op1 op2
  | .jsr op1 op2 => .abs op1 op2
  | .rts => .imp
  | .bpl op1 => .rel op1
  | .bmi op1 => .rel op1
  | .bvc op1 => .rel op1
  | .bvs op1 => .rel op1
  | .bcc op1 => .rel op1
  | .bcs op1 => .rel op1
  | .bne op1 => .rel op1
  | .beq op1 => .rel op1
  | .clc => .imp
  | .sec => .imp
  | .cli => .imp
  | .sei => .imp
  | .clv => .imp
  | .cld => .imp
  | .sed => .imp
  | .nop => .imp
  | .brk => .imp
  | .rti => .imp

/-- The length of an instruction in bytes (`30_encoding.md` R47). -/
def lengthOf (i : Instr) : Nat := (operandOf i).mode.length

/-- The record that the decoder hands to the core for an instruction (`48_dispatch_and_step.md` R150). -/
def recordOf (i : Instr) : Record where
  opcode := .known (mnemonicOf i)
  mode := (operandOf i).mode
  op1 := (operandOf i).bytes[0]?
  op2 := (operandOf i).bytes[1]?
  length := lengthOf i

end Sys2Proof
end

