-- ==== Sys2Proof/Machine/State.lean ====
section
/-! DEFINITION. The state of the machine: the registers, the flag byte and the memory of `10_state.md` R10, the sticky
status `DIAG` of R29, and the report of the last step (the value R143 has a step return), as plain data. -/

namespace Sys2Proof.Machine

/-- What an unknown opcode's report names (`60_exceptions.md` R154): at byte level the opcode byte, at record level the
mnemonic. -/
inductive OpcodeIdentity where
  | byte (opcode : Byte)
  | mnemonic (name : String)
  deriving DecidableEq, Repr

/-- What was asked for that is not implemented (`60_exceptions.md` R154: decimal, BRK or RTI). -/
inductive UnimplementedCause where
  | decimal
  | brk
  | rti
  deriving DecidableEq, Repr

/-- The three diagnostics, each with the information its report records (`60_exceptions.md` R154). -/
inductive Diagnostic where
  | unknownOpcode (what : OpcodeIdentity)
  | invalidAddressForMode (mode : Mode)
  | unimplementedSemantics (which : UnimplementedCause)
  deriving DecidableEq, Repr

/-- The values of the status `DIAG` (`10_state.md` R29; the codes 0 to 3 are `DiagCode.code`). -/
inductive DiagCode where
  | none
  | unknownOpcode
  | invalidAddressForMode
  | unimplementedSemantics
  deriving DecidableEq, Repr

/-- `MEM` (`10_state.md` R26, `20_memory.md` R32): the listed bytes, each under the number of its address. An address
that is not listed reads as `Config.unlistedByte`. The canonical form is `Memory.wf`. -/
structure Memory where
  cells : List Host.Cell
  deriving DecidableEq, Repr

/-- The architectural state (`10_state.md` R10, R29). -/
structure State where
  /-- `A`, the accumulator (R11). -/
  a : Byte
  /-- `X` (R12). -/
  x : Byte
  /-- `Y` (R13). -/
  y : Byte
  /-- `SP`, the low byte of the stack address (R14). -/
  sp : Byte
  /-- `PC` (R15). -/
  pc : Addr
  /-- `P`, the flag byte, all eight bits stored (R16). -/
  p : Byte
  /-- `MEM` (R26). -/
  mem : Memory
  /-- `DIAG`, sticky: the first code that was not 0 since reset (R29, `60_exceptions.md` R159). -/
  diag : DiagCode
  /-- The value the last step returned: nothing, or its diagnostic (`48_dispatch_and_step.md` R143 step 4).
  DESIGN CHOICE (log entry 3): the returned value is held here, since a step answers a state. -/
  report : Option Diagnostic
  deriving DecidableEq, Repr

/-- No step of this machine stops with a fault: a step "always produces exactly one next state"
(`48_dispatch_and_step.md` R147) and "There are no fatal errors in normal operation" (`60_exceptions.md` R158). The type
has no constructor, so nobody raises one; this is safe. The spec's diagnostics are next states (log entry 4). -/
inductive Fault where
  deriving DecidableEq, Repr

/-- The reasons a meaning is refused. -/
inductive Refusal where
  /-- Raised by an arm of `exec` whose instruction has no meaning yet. Safe: nothing is said about such a step. -/
  | notModelled (mnemonic : String)
  /-- Raised by `executeRecord` for an ill-formed record of kind (b), for which `48_dispatch_and_step.md` R148 says that
  a model refuses it at its boundary. Safe: nothing is said about such a record. Never raised at byte level. -/
  | illFormedRecord
  deriving DecidableEq, Repr

/-- What a step answers. -/
abbrev StepResult := Host.Outcome State Fault Refusal

/-- The machine right after reset (`70_reset_and_hazards.md` R169) with no byte of memory listed (log entry 2). -/
def State.reset : State where
  a := 0x00
  x := 0x00
  y := 0x00
  sp := 0xFD
  pc := Config.resetPc
  p := 0x00
  mem := ⟨[]⟩
  diag := .none
  report := Option.none

end Sys2Proof.Machine
end

