-- ==== Sys2Proof/Machine/Memory.lean ====
section
/-! DEFINITION. The address space as the core and the host see it: reading and writing one byte, and the canonical form
of the list that holds it (`20_memory.md` R32 to R34). -/

namespace Sys2Proof.Machine

/-- The byte listed under key `k`; the first entry counts. -/
def lookupCell : List Host.Cell → Nat → Byte
  | [], _ => Config.unlistedByte
  | (j, v) :: rest, k => if j = k then v else lookupCell rest k

/-- The list without the entries of key `k`. -/
def eraseCell : List Host.Cell → Nat → List Host.Cell
  | [], _ => []
  | (j, v) :: rest, k => if j = k then eraseCell rest k else (j, v) :: eraseCell rest k

/-- The entry put in its place by rising keys. -/
def insertCell : List Host.Cell → Nat → Byte → List Host.Cell
  | [], k, v => [(k, v)]
  | (j, w) :: rest, k, v => if k < j then (k, v) :: (j, w) :: rest else (j, w) :: insertCell rest k v

/-- The list after key `k` is given the byte `v`: listed, unless it is what an unlisted address reads as. -/
def storeCell (cells : List Host.Cell) (k : Nat) (v : Byte) : List Host.Cell :=
  if v = Config.unlistedByte then eraseCell cells k else insertCell (eraseCell cells k) k v

/-- `MemRead(addr, 1)` (`20_memory.md` R33): never fails, changes nothing. -/
def Memory.read (m : Memory) (addr : Addr) : Byte := lookupCell m.cells addr.toNat

/-- `MemWrite(addr, 1, v)` (`20_memory.md` R33): never fails, changes no other byte. -/
def Memory.write (m : Memory) (addr : Addr) (v : Byte) : Memory := ⟨storeCell m.cells addr.toNat v⟩

/-- Keys rise strictly from above `below`, are addresses, and no entry is what an unlisted address reads as. -/
def cellsOrdered : Nat → List Host.Cell → Bool
  | _, [] => true
  | below, (k, v) :: rest =>
      decide (below ≤ k) && decide (k < 65536) && (v != Config.unlistedByte) && cellsOrdered (k + 1) rest

/-- The one canonical form of the list: equal memories are equal data. -/
def Memory.wf (m : Memory) : Bool := cellsOrdered 0 m.cells

end Sys2Proof.Machine
end

