-- ==== Sys2Proof/Machine/Ops.lean ====
section
/-! DEFINITION. The named operations over registers, memory and the stack; the two ends of a step (the PC advance that
begins it, raising a diagnostic that ends it); the frame in which every handler runs; and reset. -/

namespace Sys2Proof.Machine

/-- `A <- v` (`10_state.md` R11). -/
def State.setA (v : Byte) (s : State) : State := { s with a := v }

/-- `X <- v` (`10_state.md` R12). -/
def State.setX (v : Byte) (s : State) : State := { s with x := v }

/-- `Y <- v` (`10_state.md` R13). -/
def State.setY (v : Byte) (s : State) : State := { s with y := v }

/-- `SP <- v` (`10_state.md` R14). -/
def State.setSP (v : Byte) (s : State) : State := { s with sp := v }

/-- `PC <- target` (`10_state.md` R15). -/
def State.setPC (target : Addr) (s : State) : State := { s with pc := target }

/-- `P <- v`, the whole flag byte (`10_state.md` R16). -/
def State.setP (v : Byte) (s : State) : State := { s with p := v }

/-- `MemRead(addr, 1)` (`20_memory.md` R33). -/
def State.memRead (s : State) (addr : Addr) : Byte := s.mem.read addr

/-- `MemWrite(addr, 1, v)` (`20_memory.md` R33). -/
def State.memWrite (addr : Addr) (v : Byte) (s : State) : State := { s with mem := s.mem.write addr v }

/-- The stack address `0x0100 | SP` of a value of `SP` (`20_memory.md` R38). -/
def stackAddress (sp : Byte) : Addr := 0x0100#16 ||| zext16 sp

/-- `Push(b)` (`45_stack.md` R111): the write uses `SP` before the decrement. -/
def State.push (b : Byte) (s : State) : State := (s.memWrite (stackAddress s.sp) b).setSP (s.sp - 1)

/-- The byte that `Pull()` returns (`45_stack.md` R112): read at `SP` after the increment. -/
def State.pulled (s : State) : Byte := s.memRead (stackAddress (s.sp + 1))

/-- The state that `Pull()` leaves (`45_stack.md` R112): `SP` incremented, nothing erased. -/
def State.afterPull (s : State) : State := s.setSP (s.sp + 1)

/-- The numeric codes 0 to 3 of `60_exceptions.md` R154, the two bits of the output `diag` (`48_dispatch_and_step.md`
R153). -/
def DiagCode.code : DiagCode → BitVec 2
  | .none => 0
  | .unknownOpcode => 1
  | .invalidAddressForMode => 2
  | .unimplementedSemantics => 3

/-- The code of a diagnostic (`60_exceptions.md` R154). -/
def Diagnostic.code : Diagnostic → DiagCode
  | .unknownOpcode _ => .unknownOpcode
  | .invalidAddressForMode _ => .invalidAddressForMode
  | .unimplementedSemantics _ => .unimplementedSemantics

/-- The code of a step's report: 0 when nothing was raised (`48_dispatch_and_step.md` R143 step 4). -/
def reportCode : Option Diagnostic → DiagCode
  | none => .none
  | some d => d.code

/-- `DIAG` after a diagnostic of code `new`: the first code that is not 0 stays (`60_exceptions.md` R159). -/
def stickyDiag (old new : DiagCode) : DiagCode := if old = .none then new else old

/-- The beginning of every step: `PC <- (PC + ins.length) mod 65536` (`48_dispatch_and_step.md` R144), with nothing
reported yet. -/
def State.beginStep (length : Nat) (s : State) : State :=
  { s with pc := s.pc + BitVec.ofNat 16 length, report := none }

/-- Raising a diagnostic, the one form of exception this machine has (`60_exceptions.md` R158): it is reported and kept
in `DIAG`; no register, flag or memory byte changes, nothing is saved and control goes nowhere. There is no return from
it (R164). -/
def State.raise (d : Diagnostic) (s : State) : State :=
  { s with diag := stickyDiag s.diag d.code, report := some d }

/-- `Execute` from the PC advance on (`48_dispatch_and_step.md` R143): the handler runs on the advanced state; if it
raises, the step ends with the diagnostic and the advance as its only effects (`60_exceptions.md` R158). -/
def runHandler (length : Nat) (handler : State → Except Diagnostic State) (s : State) : StepResult :=
  match handler (s.beginStep length) with
  | .ok t => .next t
  | .error d => .next ((s.beginStep length).raise d)

/-- The step of an opcode with no handler: a no-op but for the PC advance and the report (`60_exceptions.md` R155). -/
def runUnknown (length : Nat) (what : OpcodeIdentity) (s : State) : StepResult :=
  runHandler length (fun _ => .error (.unknownOpcode what)) s

/-- `Reset()` (`70_reset_and_hazards.md` R169) for a value of the parameter `RESET_PC`: every register, the flags and
`DIAG` at their reset values, memory untouched. -/
def State.resetTo (resetPc : Addr) (s : State) : State := { State.reset with pc := resetPc, mem := s.mem }

/-- `Reset()` of this hardware (`70_reset_and_hazards.md` R169). -/
def State.applyReset (s : State) : State := s.resetTo Config.resetPc

/-- Power-on (`70_reset_and_hazards.md` R170): the reset state over any initial memory `MEM_INIT`. -/
def State.powerOn (memInit : Memory) : State := { State.reset with mem := memInit }

end Sys2Proof.Machine
end

