-- ==== Sys2Proof/Machine/Flags.lean ====
section
/-! DEFINITION. The flag register (`10_state.md` R16 to R24) and every flag computation of the spec. -/

namespace Sys2Proof.Machine

/-- The eight named bits of `P` (`10_state.md` R16). -/
inductive Flag where
  | N | V | B | U | D | I | Z | C
  deriving DecidableEq, Repr

/-- The bit position of a flag in `P`: TZ's layout, with B at bit 5 and U at bit 4 (`10_state.md` R16). -/
def Flag.bit : Flag → Nat
  | .N => 7
  | .V => 6
  | .B => 5
  | .U => 4
  | .D => 3
  | .I => 2
  | .Z => 1
  | .C => 0

/-- The mask of a flag (`10_state.md` R16). -/
def Flag.mask (f : Flag) : Byte := 1#8 <<< f.bit

/-- Test one named bit of a flag byte. -/
def flagIn (p : Byte) (f : Flag) : Bool := p.getLsbD f.bit

/-- Set or clear one named bit of a flag byte; the other seven keep their value. -/
def withFlag (f : Flag) (v : Bool) (p : Byte) : Byte := if v then p ||| f.mask else p &&& ~~~f.mask

/-- Toggle one named bit of a flag byte (`10_state.md` R16: "independent set/clear/test/toggle"). -/
def toggledFlag (f : Flag) (p : Byte) : Byte := p ^^^ f.mask

/-- `P.f`. -/
def State.flag (s : State) (f : Flag) : Bool := flagIn s.p f

/-- `P.f <- v`. -/
def State.setFlag (f : Flag) (v : Bool) (s : State) : State := s.setP (withFlag f v s.p)

/-- `UpdateNZ(b)` (`41_load_store_transfer.md` R73). -/
def State.updateNZ (b : Byte) (s : State) : State := (s.setFlag .Z (b == 0)).setFlag .N b.msb

/-- The result of `AddWithCarry` on two bytes and the carry in (`44_arithmetic_compare_bit.md` R100). -/
def addResult (a m : Byte) (carryIn : Bool) : Byte := BitVec.ofNat 8 (a.toNat + m.toNat + bitOf carryIn)

/-- The carry out of `AddWithCarry`: the wide sum exceeds 255 (`44_arithmetic_compare_bit.md` R100). -/
def addCarry (a m : Byte) (carryIn : Bool) : Bool := decide (a.toNat + m.toNat + bitOf carryIn > 255)

/-- The overflow of `AddWithCarry`: the operands share a sign and the result's differs
(`44_arithmetic_compare_bit.md` R100). -/
def addOverflow (a m : Byte) (carryIn : Bool) : Bool :=
  (a.msb == m.msb) && ((addResult a m carryIn).msb != a.msb)

/-- `AddWithCarry(a, m)` (`44_arithmetic_compare_bit.md` R100). -/
def State.addWithCarry (a m : Byte) (s : State) : State :=
  let carryIn := s.flag .C
  let r := addResult a m carryIn
  (((s.setFlag .C (addCarry a m carryIn)).setFlag .V (addOverflow a m carryIn)).setA r).updateNZ r

/-- `Compare(r, m)` (`44_arithmetic_compare_bit.md` R104). -/
def State.compare (r m : Byte) (s : State) : State :=
  ((s.setFlag .Z (r == m)).setFlag .C (decide (m.toNat ≤ r.toNat))).setFlag .N (r - m).msb

/-- The flags of BIT for the memory operand `m` (`44_arithmetic_compare_bit.md` R108). -/
def State.bitTest (m : Byte) (s : State) : State :=
  ((s.setFlag .Z ((m &&& s.a) == 0)).setFlag .N (m.getLsbD 7)).setFlag .V (m.getLsbD 6)

/-- ASL's function of the byte and the carry in: result and carry out (`43_shift_rotate.md` R96). -/
def aslFn (b : Byte) (_ : Bool) : Byte × Bool := (b <<< 1, b.getLsbD 7)

/-- LSR's function (`43_shift_rotate.md` R97). -/
def lsrFn (b : Byte) (_ : Bool) : Byte × Bool := (b >>> 1, b.getLsbD 0)

/-- ROL's function (`43_shift_rotate.md` R98). -/
def rolFn (b : Byte) (carryIn : Bool) : Byte × Bool := (b <<< 1 ||| BitVec.ofNat 8 (bitOf carryIn), b.getLsbD 7)

/-- ROR's function (`43_shift_rotate.md` R99). -/
def rorFn (b : Byte) (carryIn : Bool) : Byte × Bool :=
  (b >>> 1 ||| BitVec.ofNat 8 (bitOf carryIn) <<< 7, b.getLsbD 0)

end Sys2Proof.Machine
end

