-- ==== Sys2Proof/Machine/Operands.lean ====
section
/-! DEFINITION. Address resolution for every addressing mode, operand fetch and result store
(`40_addressing_and_operands.md`). -/

namespace Sys2Proof.Machine

/-- `ins.word`, the 16-bit little-endian operand (`30_encoding.md` R49). -/
def operandWord (op1 op2 : Byte) : Addr := joinBytes op2 op1

/-- Where the high byte of a JMP pointer is read: the next address within the pointer's own page
(`40_addressing_and_operands.md` R65). -/
def samePageSucc (ptr : Addr) : Addr := (ptr &&& 0xFF00#16) ||| ((ptr + 1) &&& 0x00FF#16)

/-- The little-endian pointer at zero-page address `p`, its high byte's address masked to page zero
(`40_addressing_and_operands.md` R66 and R67). -/
def zeroPagePointer (p : Byte) (s : State) : Addr := joinBytes (s.memRead (zext16 (p + 1))) (s.memRead (zext16 p))

/-- The pointer that the 16-bit operand of JMP points to (`40_addressing_and_operands.md` R65). -/
def samePagePointer (ptr : Addr) (s : State) : Addr := joinBytes (s.memRead (samePageSucc ptr)) (s.memRead ptr)

/-- `ResolveAddress(ins)` (`40_addressing_and_operands.md` R58): the effective address of R59 to R67, or for a mode
without one the diagnostic of R68 and R69. -/
def resolveAddress (o : Operand) (s : State) : Except Diagnostic Addr :=
  match o with
  | .zp op1 => .ok (zext16 op1)
  | .zpx op1 => .ok (zext16 op1 + zext16 s.x)
  | .zpy op1 => .ok (zext16 op1 + zext16 s.y)
  | .abs op1 op2 => .ok (operandWord op1 op2)
  | .abx op1 op2 => .ok (operandWord op1 op2 + zext16 s.x)
  | .aby op1 op2 => .ok (operandWord op1 op2 + zext16 s.y)
  | .ind op1 op2 => .ok (samePagePointer (operandWord op1 op2) s)
  | .izx op1 => .ok (zeroPagePointer (op1 + s.x) s)
  | .izy op1 => .ok (zeroPagePointer op1 s + zext16 s.y)
  | .acc => .error (.invalidAddressForMode .acc)
  | .imm _ => .error (.invalidAddressForMode .imm)
  | .imp => .error (.invalidAddressForMode .imp)
  | .rel _ => .error (.invalidAddressForMode .rel)

/-- `ReadOperand(ins)` (`40_addressing_and_operands.md` R70): the accumulator, the embedded byte, or the byte at the
effective address; IMP and REL raise there. -/
def readOperand (o : Operand) (s : State) : Except Diagnostic Byte :=
  match o with
  | .acc => .ok s.a
  | .imm op1 => .ok op1
  | o => (resolveAddress o s).map s.memRead

/-- `WriteResult(b, ins)` (`40_addressing_and_operands.md` R71): into the accumulator or the byte at the effective
address; IMM, IMP and REL raise there. -/
def writeResult (b : Byte) (o : Operand) (s : State) : Except Diagnostic State :=
  match o with
  | .acc => .ok (s.setA b)
  | o => (resolveAddress o s).map (fun ea => s.memWrite ea b)

/-- A handler that reads its operand and goes on with the byte. -/
def withOperand (o : Operand) (k : Byte → State → State) (s : State) : Except Diagnostic State :=
  (readOperand o s).map (fun v => k v s)

/-- A handler that stores the byte `v` at its effective address (`41_load_store_transfer.md` R77 to R79). -/
def storeByte (v : Byte) (o : Operand) (s : State) : Except Diagnostic State :=
  (resolveAddress o s).map (fun ea => s.memWrite ea v)

/-- The step of an instruction with operand form `o` and handler `h`: the PC advance by the length of its mode, then the
handler (`48_dispatch_and_step.md` R143). -/
def executeWith (o : Operand) (h : Operand → State → Except Diagnostic State) (s : State) : StepResult :=
  runHandler o.mode.length (h o) s

end Sys2Proof.Machine
end

