-- ==== Sys2Proof/Machine/Arith.lean ====
section
/-! DEFINITION. The meanings of arithmetic, comparison and bit test (`44_arithmetic_compare_bit.md`). A handler is the
mnemonic's entry in the dispatch table (`48_dispatch_and_step.md` R145) and runs after the PC advance; a meaning is one
machine instruction's whole step. -/

namespace Sys2Proof.Machine

/-- ADC (R101): add with carry; with `P.D = 1` it raises before the operand is read (R103). -/
def handleAdc (o : Operand) (s : State) : Except Diagnostic State :=
  if s.flag .D then .error (.unimplementedSemantics .decimal)
  else withOperand o (fun m s => s.addWithCarry s.a m) s

/-- `ADC #op1`, mode IMM (R101). -/
def execAdcImm (op1 : Byte) (s : State) : StepResult := executeWith (.imm op1) handleAdc s

/-- `ADC op1`, mode ZP (R101). -/
def execAdcZp (op1 : Byte) (s : State) : StepResult := executeWith (.zp op1) handleAdc s

/-- `ADC op1,X`, mode ZPX (R101). -/
def execAdcZpx (op1 : Byte) (s : State) : StepResult := executeWith (.zpx op1) handleAdc s

/-- `ADC op2op1`, mode ABS (R101). -/
def execAdcAbs (op1 op2 : Byte) (s : State) : StepResult := executeWith (.abs op1 op2) handleAdc s

/-- `ADC op2op1,X`, mode ABX (R101). -/
def execAdcAbx (op1 op2 : Byte) (s : State) : StepResult := executeWith (.abx op1 op2) handleAdc s

/-- `ADC op2op1,Y`, mode ABY (R101). -/
def execAdcAby (op1 op2 : Byte) (s : State) : StepResult := executeWith (.aby op1 op2) handleAdc s

/-- `ADC (op1,X)`, mode IZX (R101). -/
def execAdcIzx (op1 : Byte) (s : State) : StepResult := executeWith (.izx op1) handleAdc s

/-- `ADC (op1),Y`, mode IZY (R101). -/
def execAdcIzy (op1 : Byte) (s : State) : StepResult := executeWith (.izy op1) handleAdc s

/-- SBC (R102): add the complement with carry; with `P.D = 1` it raises before the operand is read (R103). -/
def handleSbc (o : Operand) (s : State) : Except Diagnostic State :=
  if s.flag .D then .error (.unimplementedSemantics .decimal)
  else withOperand o (fun m s => s.addWithCarry s.a (~~~m)) s

/-- `SBC #op1`, mode IMM (R102). -/
def execSbcImm (op1 : Byte) (s : State) : StepResult := executeWith (.imm op1) handleSbc s

/-- `SBC op1`, mode ZP (R102). -/
def execSbcZp (op1 : Byte) (s : State) : StepResult := executeWith (.zp op1) handleSbc s

/-- `SBC op1,X`, mode ZPX (R102). -/
def execSbcZpx (op1 : Byte) (s : State) : StepResult := executeWith (.zpx op1) handleSbc s

/-- `SBC op2op1`, mode ABS (R102). -/
def execSbcAbs (op1 op2 : Byte) (s : State) : StepResult := executeWith (.abs op1 op2) handleSbc s

/-- `SBC op2op1,X`, mode ABX (R102). -/
def execSbcAbx (op1 op2 : Byte) (s : State) : StepResult := executeWith (.abx op1 op2) handleSbc s

/-- `SBC op2op1,Y`, mode ABY (R102). -/
def execSbcAby (op1 op2 : Byte) (s : State) : StepResult := executeWith (.aby op1 op2) handleSbc s

/-- `SBC (op1,X)`, mode IZX (R102). -/
def execSbcIzx (op1 : Byte) (s : State) : StepResult := executeWith (.izx op1) handleSbc s

/-- `SBC (op1),Y`, mode IZY (R102). -/
def execSbcIzy (op1 : Byte) (s : State) : StepResult := executeWith (.izy op1) handleSbc s

/-- CMP (R105): compare the operand with `A`. -/
def handleCmp (o : Operand) (s : State) : Except Diagnostic State :=
  withOperand o (fun m s => s.compare s.a m) s

/-- `CMP #op1`, mode IMM (R105). -/
def execCmpImm (op1 : Byte) (s : State) : StepResult := executeWith (.imm op1) handleCmp s

/-- `CMP op1`, mode ZP (R105). -/
def execCmpZp (op1 : Byte) (s : State) : StepResult := executeWith (.zp op1) handleCmp s

/-- `CMP op1,X`, mode ZPX (R105). -/
def execCmpZpx (op1 : Byte) (s : State) : StepResult := executeWith (.zpx op1) handleCmp s

/-- `CMP op2op1`, mode ABS (R105). -/
def execCmpAbs (op1 op2 : Byte) (s : State) : StepResult := executeWith (.abs op1 op2) handleCmp s

/-- `CMP op2op1,X`, mode ABX (R105). -/
def execCmpAbx (op1 op2 : Byte) (s : State) : StepResult := executeWith (.abx op1 op2) handleCmp s

/-- `CMP op2op1,Y`, mode ABY (R105). -/
def execCmpAby (op1 op2 : Byte) (s : State) : StepResult := executeWith (.aby op1 op2) handleCmp s

/-- `CMP (op1,X)`, mode IZX (R105). -/
def execCmpIzx (op1 : Byte) (s : State) : StepResult := executeWith (.izx op1) handleCmp s

/-- `CMP (op1),Y`, mode IZY (R105). -/
def execCmpIzy (op1 : Byte) (s : State) : StepResult := executeWith (.izy op1) handleCmp s

/-- CPX (R106): compare the operand with `X`. -/
def handleCpx (o : Operand) (s : State) : Except Diagnostic State :=
  withOperand o (fun m s => s.compare s.x m) s

/-- `CPX #op1`, mode IMM (R106). -/
def execCpxImm (op1 : Byte) (s : State) : StepResult := executeWith (.imm op1) handleCpx s

/-- `CPX op1`, mode ZP (R106). -/
def execCpxZp (op1 : Byte) (s : State) : StepResult := executeWith (.zp op1) handleCpx s

/-- `CPX op2op1`, mode ABS (R106). -/
def execCpxAbs (op1 op2 : Byte) (s : State) : StepResult := executeWith (.abs op1 op2) handleCpx s

/-- CPY (R107): compare the operand with `Y`. -/
def handleCpy (o : Operand) (s : State) : Except Diagnostic State :=
  withOperand o (fun m s => s.compare s.y m) s

/-- `CPY #op1`, mode IMM (R107). -/
def execCpyImm (op1 : Byte) (s : State) : StepResult := executeWith (.imm op1) handleCpy s

/-- `CPY op1`, mode ZP (R107). -/
def execCpyZp (op1 : Byte) (s : State) : StepResult := executeWith (.zp op1) handleCpy s

/-- `CPY op2op1`, mode ABS (R107). -/
def execCpyAbs (op1 op2 : Byte) (s : State) : StepResult := executeWith (.abs op1 op2) handleCpy s

/-- BIT (R108): test the operand's bits against `A`. -/
def handleBit (o : Operand) (s : State) : Except Diagnostic State :=
  withOperand o (fun m s => s.bitTest m) s

/-- `BIT op1`, mode ZP (R108). -/
def execBitZp (op1 : Byte) (s : State) : StepResult := executeWith (.zp op1) handleBit s

/-- `BIT op2op1`, mode ABS (R108). -/
def execBitAbs (op1 op2 : Byte) (s : State) : StepResult := executeWith (.abs op1 op2) handleBit s

end Sys2Proof.Machine
end

