-- ==== Sys2Proof/Machine/Control.lean ====
section
/-! DEFINITION. The meanings of jumps, call, return and branches (`46_control_transfer.md`). A handler is the
mnemonic's entry in the dispatch table (`48_dispatch_and_step.md` R145) and runs after the PC advance; a meaning is one
machine instruction's whole step. -/

namespace Sys2Proof.Machine

/-- JSR's two pushes (R120): with `PC` already advanced, the high byte and then the low byte of `PC - 1`. -/
def State.pushReturnAddress (s : State) : State := (s.push (hiByte (s.pc - 1))).push (loByte (s.pc - 1))

/-- `Branch(cond, ins)` (R122): with `PC` already advanced, the signed offset is added when the condition holds. A form
without an offset is never given to a branch, since R148 (b) refuses such a record. -/
def branch (cond : Bool) (o : Operand) (s : State) : Except Diagnostic State :=
  match o with
  | .rel op1 => .ok (if cond then s.setPC (s.pc + sext16 op1) else s)
  | o => .error (.invalidAddressForMode o.mode)

/-- JMP (R119): `PC` to the effective address. -/
def handleJmp (o : Operand) (s : State) : Except Diagnostic State :=
  (resolveAddress o s).map (fun ea => s.setPC ea)

/-- `JMP op2op1`, mode ABS (R119). -/
def execJmpAbs (op1 op2 : Byte) (s : State) : StepResult := executeWith (.abs op1 op2) handleJmp s

/-- `JMP (op2op1)`, mode IND (R119). -/
def execJmpInd (op1 op2 : Byte) (s : State) : StepResult := executeWith (.ind op1 op2) handleJmp s

/-- JSR (R120): push the address of the instruction's last byte, high byte first, and jump; the target is resolved
first so that a mode without an address raises before anything is pushed (log entry 7). -/
def handleJsr (o : Operand) (s : State) : Except Diagnostic State :=
  (resolveAddress o s).map (fun ea => s.pushReturnAddress.setPC ea)

/-- `JSR op2op1`, mode ABS (R120). -/
def execJsr (op1 op2 : Byte) (s : State) : StepResult := executeWith (.abs op1 op2) handleJsr s

/-- RTS (R121): pull the low byte, then the high byte, add 1. -/
def handleRts (_ : Operand) (s : State) : Except Diagnostic State :=
  .ok (s.afterPull.afterPull.setPC (joinBytes s.afterPull.pulled s.pulled + 1))

/-- `RTS`, mode IMP (R121). -/
def execRts (s : State) : StepResult := executeWith .imp handleRts s

/-- BPL (R123): branch when `P.N` is 0. -/
def handleBpl (o : Operand) (s : State) : Except Diagnostic State :=
  branch (!s.flag .N) o s

/-- `BPL *+op1`, mode REL (R123). -/
def execBpl (op1 : Byte) (s : State) : StepResult := executeWith (.rel op1) handleBpl s

/-- BMI (R124): branch when `P.N` is 1. -/
def handleBmi (o : Operand) (s : State) : Except Diagnostic State :=
  branch (s.flag .N) o s

/-- `BMI *+op1`, mode REL (R124). -/
def execBmi (op1 : Byte) (s : State) : StepResult := executeWith (.rel op1) handleBmi s

/-- BVC (R125): branch when `P.V` is 0. -/
def handleBvc (o : Operand) (s : State) : Except Diagnostic State :=
  branch (!s.flag .V) o s

/-- `BVC *+op1`, mode REL (R125). -/
def execBvc (op1 : Byte) (s : State) : StepResult := executeWith (.rel op1) handleBvc s

/-- BVS (R126): branch when `P.V` is 1. -/
def handleBvs (o : Operand) (s : State) : Except Diagnostic State :=
  branch (s.flag .V) o s

/-- `BVS *+op1`, mode REL (R126). -/
def execBvs (op1 : Byte) (s : State) : StepResult := executeWith (.rel op1) handleBvs s

/-- BCC (R127): branch when `P.C` is 0. -/
def handleBcc (o : Operand) (s : State) : Except Diagnostic State :=
  branch (!s.flag .C) o s

/-- `BCC *+op1`, mode REL (R127). -/
def execBcc (op1 : Byte) (s : State) : StepResult := executeWith (.rel op1) handleBcc s

/-- BCS (R128): branch when `P.C` is 1. -/
def handleBcs (o : Operand) (s : State) : Except Diagnostic State :=
  branch (s.flag .C) o s

/-- `BCS *+op1`, mode REL (R128). -/
def execBcs (op1 : Byte) (s : State) : StepResult := executeWith (.rel op1) handleBcs s

/-- BNE (R129): branch when `P.Z` is 0. -/
def handleBne (o : Operand) (s : State) : Except Diagnostic State :=
  branch (!s.flag .Z) o s

/-- `BNE *+op1`, mode REL (R129). -/
def execBne (op1 : Byte) (s : State) : StepResult := executeWith (.rel op1) handleBne s

/-- BEQ (R130): branch when `P.Z` is 1. -/
def handleBeq (o : Operand) (s : State) : Except Diagnostic State :=
  branch (s.flag .Z) o s

/-- `BEQ *+op1`, mode REL (R130). -/
def execBeq (op1 : Byte) (s : State) : StepResult := executeWith (.rel op1) handleBeq s

end Sys2Proof.Machine
end

