-- ==== Sys2Proof/Machine/LoadStore.lean ====
section
/-! DEFINITION. The meanings of loads, stores and register transfers (`41_load_store_transfer.md`). A handler is the
mnemonic's entry in the dispatch table (`48_dispatch_and_step.md` R145) and runs after the PC advance; a meaning is one
machine instruction's whole step. -/

namespace Sys2Proof.Machine

/-- `SP <- X`, then `UpdateNZ(SP)` if the parameter `TXS_UPDATES_NZ` says so (R85). -/
def State.transferXToSP (updatesNZ : Bool) (s : State) : State :=
  if updatesNZ then (s.setSP s.x).updateNZ s.x else s.setSP s.x

/-- LDA (R74): load `A` and update N and Z. -/
def handleLda (o : Operand) (s : State) : Except Diagnostic State :=
  withOperand o (fun v s => (s.setA v).updateNZ v) s

/-- `LDA #op1`, mode IMM (R74). -/
def execLdaImm (op1 : Byte) (s : State) : StepResult := executeWith (.imm op1) handleLda s

/-- `LDA op1`, mode ZP (R74). -/
def execLdaZp (op1 : Byte) (s : State) : StepResult := executeWith (.zp op1) handleLda s

/-- `LDA op1,X`, mode ZPX (R74). -/
def execLdaZpx (op1 : Byte) (s : State) : StepResult := executeWith (.zpx op1) handleLda s

/-- `LDA op2op1`, mode ABS (R74). -/
def execLdaAbs (op1 op2 : Byte) (s : State) : StepResult := executeWith (.abs op1 op2) handleLda s

/-- `LDA op2op1,X`, mode ABX (R74). -/
def execLdaAbx (op1 op2 : Byte) (s : State) : StepResult := executeWith (.abx op1 op2) handleLda s

/-- `LDA op2op1,Y`, mode ABY (R74). -/
def execLdaAby (op1 op2 : Byte) (s : State) : StepResult := executeWith (.aby op1 op2) handleLda s

/-- `LDA (op1,X)`, mode IZX (R74). -/
def execLdaIzx (op1 : Byte) (s : State) : StepResult := executeWith (.izx op1) handleLda s

/-- `LDA (op1),Y`, mode IZY (R74). -/
def execLdaIzy (op1 : Byte) (s : State) : StepResult := executeWith (.izy op1) handleLda s

/-- LDX (R75): load `X` and update N and Z. -/
def handleLdx (o : Operand) (s : State) : Except Diagnostic State :=
  withOperand o (fun v s => (s.setX v).updateNZ v) s

/-- `LDX #op1`, mode IMM (R75). -/
def execLdxImm (op1 : Byte) (s : State) : StepResult := executeWith (.imm op1) handleLdx s

/-- `LDX op1`, mode ZP (R75). -/
def execLdxZp (op1 : Byte) (s : State) : StepResult := executeWith (.zp op1) handleLdx s

/-- `LDX op1,Y`, mode ZPY (R75). -/
def execLdxZpy (op1 : Byte) (s : State) : StepResult := executeWith (.zpy op1) handleLdx s

/-- `LDX op2op1`, mode ABS (R75). -/
def execLdxAbs (op1 op2 : Byte) (s : State) : StepResult := executeWith (.abs op1 op2) handleLdx s

/-- `LDX op2op1,Y`, mode ABY (R75). -/
def execLdxAby (op1 op2 : Byte) (s : State) : StepResult := executeWith (.aby op1 op2) handleLdx s

/-- LDY (R76): load `Y` and update N and Z. -/
def handleLdy (o : Operand) (s : State) : Except Diagnostic State :=
  withOperand o (fun v s => (s.setY v).updateNZ v) s

/-- `LDY #op1`, mode IMM (R76). -/
def execLdyImm (op1 : Byte) (s : State) : StepResult := executeWith (.imm op1) handleLdy s

/-- `LDY op1`, mode ZP (R76). -/
def execLdyZp (op1 : Byte) (s : State) : StepResult := executeWith (.zp op1) handleLdy s

/-- `LDY op1,X`, mode ZPX (R76). -/
def execLdyZpx (op1 : Byte) (s : State) : StepResult := executeWith (.zpx op1) handleLdy s

/-- `LDY op2op1`, mode ABS (R76). -/
def execLdyAbs (op1 op2 : Byte) (s : State) : StepResult := executeWith (.abs op1 op2) handleLdy s

/-- `LDY op2op1,X`, mode ABX (R76). -/
def execLdyAbx (op1 op2 : Byte) (s : State) : StepResult := executeWith (.abx op1 op2) handleLdy s

/-- STA (R77): store `A`, no flag. -/
def handleSta (o : Operand) (s : State) : Except Diagnostic State :=
  storeByte s.a o s

/-- `STA op1`, mode ZP (R77). -/
def execStaZp (op1 : Byte) (s : State) : StepResult := executeWith (.zp op1) handleSta s

/-- `STA op1,X`, mode ZPX (R77). -/
def execStaZpx (op1 : Byte) (s : State) : StepResult := executeWith (.zpx op1) handleSta s

/-- `STA op2op1`, mode ABS (R77). -/
def execStaAbs (op1 op2 : Byte) (s : State) : StepResult := executeWith (.abs op1 op2) handleSta s

/-- `STA op2op1,X`, mode ABX (R77). -/
def execStaAbx (op1 op2 : Byte) (s : State) : StepResult := executeWith (.abx op1 op2) handleSta s

/-- `STA op2op1,Y`, mode ABY (R77). -/
def execStaAby (op1 op2 : Byte) (s : State) : StepResult := executeWith (.aby op1 op2) handleSta s

/-- `STA (op1,X)`, mode IZX (R77). -/
def execStaIzx (op1 : Byte) (s : State) : StepResult := executeWith (.izx op1) handleSta s

/-- `STA (op1),Y`, mode IZY (R77). -/
def execStaIzy (op1 : Byte) (s : State) : StepResult := executeWith (.izy op1) handleSta s

/-- STX (R78): store `X`, no flag. -/
def handleStx (o : Operand) (s : State) : Except Diagnostic State :=
  storeByte s.x o s

/-- `STX op1`, mode ZP (R78). -/
def execStxZp (op1 : Byte) (s : State) : StepResult := executeWith (.zp op1) handleStx s

/-- `STX op1,Y`, mode ZPY (R78). -/
def execStxZpy (op1 : Byte) (s : State) : StepResult := executeWith (.zpy op1) handleStx s

/-- `STX op2op1`, mode ABS (R78). -/
def execStxAbs (op1 op2 : Byte) (s : State) : StepResult := executeWith (.abs op1 op2) handleStx s

/-- STY (R79): store `Y`, no flag. -/
def handleSty (o : Operand) (s : State) : Except Diagnostic State :=
  storeByte s.y o s

/-- `STY op1`, mode ZP (R79). -/
def execStyZp (op1 : Byte) (s : State) : StepResult := executeWith (.zp op1) handleSty s

/-- `STY op1,X`, mode ZPX (R79). -/
def execStyZpx (op1 : Byte) (s : State) : StepResult := executeWith (.zpx op1) handleSty s

/-- `STY op2op1`, mode ABS (R79). -/
def execStyAbs (op1 op2 : Byte) (s : State) : StepResult := executeWith (.abs op1 op2) handleSty s

/-- TAX (R80): `A` to `X`, N and Z updated. -/
def handleTax (_ : Operand) (s : State) : Except Diagnostic State :=
  .ok ((s.setX s.a).updateNZ s.a)

/-- `TAX`, mode IMP (R80). -/
def execTax (s : State) : StepResult := executeWith .imp handleTax s

/-- TAY (R81): `A` to `Y`, N and Z updated. -/
def handleTay (_ : Operand) (s : State) : Except Diagnostic State :=
  .ok ((s.setY s.a).updateNZ s.a)

/-- `TAY`, mode IMP (R81). -/
def execTay (s : State) : StepResult := executeWith .imp handleTay s

/-- TXA (R82): `X` to `A`, N and Z updated. -/
def handleTxa (_ : Operand) (s : State) : Except Diagnostic State :=
  .ok ((s.setA s.x).updateNZ s.x)

/-- `TXA`, mode IMP (R82). -/
def execTxa (s : State) : StepResult := executeWith .imp handleTxa s

/-- TYA (R83): `Y` to `A`, N and Z updated. -/
def handleTya (_ : Operand) (s : State) : Except Diagnostic State :=
  .ok ((s.setA s.y).updateNZ s.y)

/-- `TYA`, mode IMP (R83). -/
def execTya (s : State) : StepResult := executeWith .imp handleTya s

/-- TSX (R84): `SP` to `X`, N and Z updated. -/
def handleTsx (_ : Operand) (s : State) : Except Diagnostic State :=
  .ok ((s.setX s.sp).updateNZ s.sp)

/-- `TSX`, mode IMP (R84). -/
def execTsx (s : State) : StepResult := executeWith .imp handleTsx s

/-- TXS (R85): `X` to `SP`, N and Z updated by the parameter's value. -/
def handleTxs (_ : Operand) (s : State) : Except Diagnostic State :=
  .ok (s.transferXToSP Config.txsUpdatesNZ)

/-- `TXS`, mode IMP (R85). -/
def execTxs (s : State) : StepResult := executeWith .imp handleTxs s

end Sys2Proof.Machine
end

