-- ==== Sys2Proof/Machine/Logical.lean ====
section
/-! DEFINITION. The meanings of the logical instructions, increments and decrements (`42_logical_incdec.md`). A handler is the
mnemonic's entry in the dispatch table (`48_dispatch_and_step.md` R145) and runs after the PC advance; a meaning is one
machine instruction's whole step. -/

namespace Sys2Proof.Machine

/-- The structure of INC and DEC on memory (R89, R90): resolve once, read, write back, update N and Z. -/
def modifyMemory (f : Byte → Byte) (o : Operand) (s : State) : Except Diagnostic State :=
  (resolveAddress o s).map (fun ea => (s.memWrite ea (f (s.memRead ea))).updateNZ (f (s.memRead ea)))

/-- AND (R86): bitwise and of the operand into `A`. -/
def handleAnd (o : Operand) (s : State) : Except Diagnostic State :=
  withOperand o (fun m s => (s.setA (s.a &&& m)).updateNZ (s.a &&& m)) s

/-- `AND #op1`, mode IMM (R86). -/
def execAndImm (op1 : Byte) (s : State) : StepResult := executeWith (.imm op1) handleAnd s

/-- `AND op1`, mode ZP (R86). -/
def execAndZp (op1 : Byte) (s : State) : StepResult := executeWith (.zp op1) handleAnd s

/-- `AND op1,X`, mode ZPX (R86). -/
def execAndZpx (op1 : Byte) (s : State) : StepResult := executeWith (.zpx op1) handleAnd s

/-- `AND op2op1`, mode ABS (R86). -/
def execAndAbs (op1 op2 : Byte) (s : State) : StepResult := executeWith (.abs op1 op2) handleAnd s

/-- `AND op2op1,X`, mode ABX (R86). -/
def execAndAbx (op1 op2 : Byte) (s : State) : StepResult := executeWith (.abx op1 op2) handleAnd s

/-- `AND op2op1,Y`, mode ABY (R86). -/
def execAndAby (op1 op2 : Byte) (s : State) : StepResult := executeWith (.aby op1 op2) handleAnd s

/-- `AND (op1,X)`, mode IZX (R86). -/
def execAndIzx (op1 : Byte) (s : State) : StepResult := executeWith (.izx op1) handleAnd s

/-- `AND (op1),Y`, mode IZY (R86). -/
def execAndIzy (op1 : Byte) (s : State) : StepResult := executeWith (.izy op1) handleAnd s

/-- ORA (R87): bitwise inclusive or of the operand into `A`. -/
def handleOra (o : Operand) (s : State) : Except Diagnostic State :=
  withOperand o (fun m s => (s.setA (s.a ||| m)).updateNZ (s.a ||| m)) s

/-- `ORA #op1`, mode IMM (R87). -/
def execOraImm (op1 : Byte) (s : State) : StepResult := executeWith (.imm op1) handleOra s

/-- `ORA op1`, mode ZP (R87). -/
def execOraZp (op1 : Byte) (s : State) : StepResult := executeWith (.zp op1) handleOra s

/-- `ORA op1,X`, mode ZPX (R87). -/
def execOraZpx (op1 : Byte) (s : State) : StepResult := executeWith (.zpx op1) handleOra s

/-- `ORA op2op1`, mode ABS (R87). -/
def execOraAbs (op1 op2 : Byte) (s : State) : StepResult := executeWith (.abs op1 op2) handleOra s

/-- `ORA op2op1,X`, mode ABX (R87). -/
def execOraAbx (op1 op2 : Byte) (s : State) : StepResult := executeWith (.abx op1 op2) handleOra s

/-- `ORA op2op1,Y`, mode ABY (R87). -/
def execOraAby (op1 op2 : Byte) (s : State) : StepResult := executeWith (.aby op1 op2) handleOra s

/-- `ORA (op1,X)`, mode IZX (R87). -/
def execOraIzx (op1 : Byte) (s : State) : StepResult := executeWith (.izx op1) handleOra s

/-- `ORA (op1),Y`, mode IZY (R87). -/
def execOraIzy (op1 : Byte) (s : State) : StepResult := executeWith (.izy op1) handleOra s

/-- EOR (R88): bitwise exclusive or of the operand into `A`. -/
def handleEor (o : Operand) (s : State) : Except Diagnostic State :=
  withOperand o (fun m s => (s.setA (s.a ^^^ m)).updateNZ (s.a ^^^ m)) s

/-- `EOR #op1`, mode IMM (R88). -/
def execEorImm (op1 : Byte) (s : State) : StepResult := executeWith (.imm op1) handleEor s

/-- `EOR op1`, mode ZP (R88). -/
def execEorZp (op1 : Byte) (s : State) : StepResult := executeWith (.zp op1) handleEor s

/-- `EOR op1,X`, mode ZPX (R88). -/
def execEorZpx (op1 : Byte) (s : State) : StepResult := executeWith (.zpx op1) handleEor s

/-- `EOR op2op1`, mode ABS (R88). -/
def execEorAbs (op1 op2 : Byte) (s : State) : StepResult := executeWith (.abs op1 op2) handleEor s

/-- `EOR op2op1,X`, mode ABX (R88). -/
def execEorAbx (op1 op2 : Byte) (s : State) : StepResult := executeWith (.abx op1 op2) handleEor s

/-- `EOR op2op1,Y`, mode ABY (R88). -/
def execEorAby (op1 op2 : Byte) (s : State) : StepResult := executeWith (.aby op1 op2) handleEor s

/-- `EOR (op1,X)`, mode IZX (R88). -/
def execEorIzx (op1 : Byte) (s : State) : StepResult := executeWith (.izx op1) handleEor s

/-- `EOR (op1),Y`, mode IZY (R88). -/
def execEorIzy (op1 : Byte) (s : State) : StepResult := executeWith (.izy op1) handleEor s

/-- INC (R89): add 1 to a memory byte. -/
def handleInc (o : Operand) (s : State) : Except Diagnostic State :=
  modifyMemory (fun b => b + 1) o s

/-- `INC op1`, mode ZP (R89). -/
def execIncZp (op1 : Byte) (s : State) : StepResult := executeWith (.zp op1) handleInc s

/-- `INC op1,X`, mode ZPX (R89). -/
def execIncZpx (op1 : Byte) (s : State) : StepResult := executeWith (.zpx op1) handleInc s

/-- `INC op2op1`, mode ABS (R89). -/
def execIncAbs (op1 op2 : Byte) (s : State) : StepResult := executeWith (.abs op1 op2) handleInc s

/-- `INC op2op1,X`, mode ABX (R89). -/
def execIncAbx (op1 op2 : Byte) (s : State) : StepResult := executeWith (.abx op1 op2) handleInc s

/-- DEC (R90): subtract 1 from a memory byte. -/
def handleDec (o : Operand) (s : State) : Except Diagnostic State :=
  modifyMemory (fun b => b - 1) o s

/-- `DEC op1`, mode ZP (R90). -/
def execDecZp (op1 : Byte) (s : State) : StepResult := executeWith (.zp op1) handleDec s

/-- `DEC op1,X`, mode ZPX (R90). -/
def execDecZpx (op1 : Byte) (s : State) : StepResult := executeWith (.zpx op1) handleDec s

/-- `DEC op2op1`, mode ABS (R90). -/
def execDecAbs (op1 op2 : Byte) (s : State) : StepResult := executeWith (.abs op1 op2) handleDec s

/-- `DEC op2op1,X`, mode ABX (R90). -/
def execDecAbx (op1 op2 : Byte) (s : State) : StepResult := executeWith (.abx op1 op2) handleDec s

/-- INX (R91): `X` + 1. -/
def handleInx (_ : Operand) (s : State) : Except Diagnostic State :=
  .ok ((s.setX (s.x + 1)).updateNZ (s.x + 1))

/-- `INX`, mode IMP (R91). -/
def execInx (s : State) : StepResult := executeWith .imp handleInx s

/-- INY (R92): `Y` + 1. -/
def handleIny (_ : Operand) (s : State) : Except Diagnostic State :=
  .ok ((s.setY (s.y + 1)).updateNZ (s.y + 1))

/-- `INY`, mode IMP (R92). -/
def execIny (s : State) : StepResult := executeWith .imp handleIny s

/-- DEX (R93): `X` - 1. -/
def handleDex (_ : Operand) (s : State) : Except Diagnostic State :=
  .ok ((s.setX (s.x - 1)).updateNZ (s.x - 1))

/-- `DEX`, mode IMP (R93). -/
def execDex (s : State) : StepResult := executeWith .imp handleDex s

/-- DEY (R94): `Y` - 1. -/
def handleDey (_ : Operand) (s : State) : Except Diagnostic State :=
  .ok ((s.setY (s.y - 1)).updateNZ (s.y - 1))

/-- `DEY`, mode IMP (R94). -/
def execDey (s : State) : StepResult := executeWith .imp handleDey s

end Sys2Proof.Machine
end

