-- ==== Sys2Proof/Machine/Shift.lean ====
section
/-! DEFINITION. The meanings of the shifts and rotates (`43_shift_rotate.md`). A handler is the
mnemonic's entry in the dispatch table (`48_dispatch_and_step.md` R145) and runs after the PC advance; a meaning is one
machine instruction's whole step. -/

namespace Sys2Proof.Machine

/-- The byte and the carry out that a shift function makes of the byte `b` in the state `s`, whose `P.C` is the carry
in (R95). -/
def shifted (f : Byte → Bool → Byte × Bool) (b : Byte) (s : State) : Byte × Bool := f b (s.flag .C)

/-- The shared structure of the shifts and rotates (R95): the carry is written, then the result, then N and Z. -/
def shiftWith (f : Byte → Bool → Byte × Bool) (o : Operand) (s : State) : Except Diagnostic State :=
  match o with
  | .acc =>
      .ok (((s.setFlag .C (shifted f s.a s).2).setA (shifted f s.a s).1).updateNZ (shifted f s.a s).1)
  | o =>
      (resolveAddress o s).map (fun ea =>
        ((s.setFlag .C (shifted f (s.memRead ea) s).2).memWrite ea (shifted f (s.memRead ea) s).1).updateNZ
          (shifted f (s.memRead ea) s).1)

/-- ASL (R96): the structure of R95 with its own function. -/
def handleAsl (o : Operand) (s : State) : Except Diagnostic State :=
  shiftWith aslFn o s

/-- `ASL A`, mode ACC (R96). -/
def execAslAcc (s : State) : StepResult := executeWith .acc handleAsl s

/-- `ASL op1`, mode ZP (R96). -/
def execAslZp (op1 : Byte) (s : State) : StepResult := executeWith (.zp op1) handleAsl s

/-- `ASL op1,X`, mode ZPX (R96). -/
def execAslZpx (op1 : Byte) (s : State) : StepResult := executeWith (.zpx op1) handleAsl s

/-- `ASL op2op1`, mode ABS (R96). -/
def execAslAbs (op1 op2 : Byte) (s : State) : StepResult := executeWith (.abs op1 op2) handleAsl s

/-- `ASL op2op1,X`, mode ABX (R96). -/
def execAslAbx (op1 op2 : Byte) (s : State) : StepResult := executeWith (.abx op1 op2) handleAsl s

/-- LSR (R97): the structure of R95 with its own function. -/
def handleLsr (o : Operand) (s : State) : Except Diagnostic State :=
  shiftWith lsrFn o s

/-- `LSR A`, mode ACC (R97). -/
def execLsrAcc (s : State) : StepResult := executeWith .acc handleLsr s

/-- `LSR op1`, mode ZP (R97). -/
def execLsrZp (op1 : Byte) (s : State) : StepResult := executeWith (.zp op1) handleLsr s

/-- `LSR op1,X`, mode ZPX (R97). -/
def execLsrZpx (op1 : Byte) (s : State) : StepResult := executeWith (.zpx op1) handleLsr s

/-- `LSR op2op1`, mode ABS (R97). -/
def execLsrAbs (op1 op2 : Byte) (s : State) : StepResult := executeWith (.abs op1 op2) handleLsr s

/-- `LSR op2op1,X`, mode ABX (R97). -/
def execLsrAbx (op1 op2 : Byte) (s : State) : StepResult := executeWith (.abx op1 op2) handleLsr s

/-- ROL (R98): the structure of R95 with its own function. -/
def handleRol (o : Operand) (s : State) : Except Diagnostic State :=
  shiftWith rolFn o s

/-- `ROL A`, mode ACC (R98). -/
def execRolAcc (s : State) : StepResult := executeWith .acc handleRol s

/-- `ROL op1`, mode ZP (R98). -/
def execRolZp (op1 : Byte) (s : State) : StepResult := executeWith (.zp op1) handleRol s

/-- `ROL op1,X`, mode ZPX (R98). -/
def execRolZpx (op1 : Byte) (s : State) : StepResult := executeWith (.zpx op1) handleRol s

/-- `ROL op2op1`, mode ABS (R98). -/
def execRolAbs (op1 op2 : Byte) (s : State) : StepResult := executeWith (.abs op1 op2) handleRol s

/-- `ROL op2op1,X`, mode ABX (R98). -/
def execRolAbx (op1 op2 : Byte) (s : State) : StepResult := executeWith (.abx op1 op2) handleRol s

/-- ROR (R99): the structure of R95 with its own function. -/
def handleRor (o : Operand) (s : State) : Except Diagnostic State :=
  shiftWith rorFn o s

/-- `ROR A`, mode ACC (R99). -/
def execRorAcc (s : State) : StepResult := executeWith .acc handleRor s

/-- `ROR op1`, mode ZP (R99). -/
def execRorZp (op1 : Byte) (s : State) : StepResult := executeWith (.zp op1) handleRor s

/-- `ROR op1,X`, mode ZPX (R99). -/
def execRorZpx (op1 : Byte) (s : State) : StepResult := executeWith (.zpx op1) handleRor s

/-- `ROR op2op1`, mode ABS (R99). -/
def execRorAbs (op1 op2 : Byte) (s : State) : StepResult := executeWith (.abs op1 op2) handleRor s

/-- `ROR op2op1,X`, mode ABX (R99). -/
def execRorAbx (op1 op2 : Byte) (s : State) : StepResult := executeWith (.abx op1 op2) handleRor s

end Sys2Proof.Machine
end

