-- ==== Sys2Proof/Machine/Stack.lean ====
section
/-! DEFINITION. The meanings of the stack instructions (`45_stack.md`). A handler is the
mnemonic's entry in the dispatch table (`48_dispatch_and_step.md` R145) and runs after the PC advance; a meaning is one
machine instruction's whole step. -/

namespace Sys2Proof.Machine

/-- PHA (R115): push `A`. -/
def handlePha (_ : Operand) (s : State) : Except Diagnostic State :=
  .ok (s.push s.a)

/-- `PHA`, mode IMP (R115). -/
def execPha (s : State) : StepResult := executeWith .imp handlePha s

/-- PHP (R116): push `P` with bit 4 set; `P` itself is unchanged. -/
def handlePhp (_ : Operand) (s : State) : Except Diagnostic State :=
  .ok (s.push (s.p ||| Flag.mask .U))

/-- `PHP`, mode IMP (R116). -/
def execPhp (s : State) : StepResult := executeWith .imp handlePhp s

/-- PLA (R117): pull `A`, N and Z updated. -/
def handlePla (_ : Operand) (s : State) : Except Diagnostic State :=
  .ok ((s.afterPull.setA s.pulled).updateNZ s.pulled)

/-- `PLA`, mode IMP (R117). -/
def execPla (s : State) : StepResult := executeWith .imp handlePla s

/-- PLP (R118): pull all eight bits of `P`. -/
def handlePlp (_ : Operand) (s : State) : Except Diagnostic State :=
  .ok (s.afterPull.setP s.pulled)

/-- `PLP`, mode IMP (R118). -/
def execPlp (s : State) : StepResult := executeWith .imp handlePlp s

end Sys2Proof.Machine
end

