-- ==== Sys2Proof/Machine/System.lean ====
section
/-! DEFINITION. The meanings of the flag instructions, NOP, BRK and RTI (`47_flag_nop_system.md`). A handler is the
mnemonic's entry in the dispatch table (`48_dispatch_and_step.md` R145) and runs after the PC advance; a meaning is one
machine instruction's whole step. -/

namespace Sys2Proof.Machine

/-- CLC (R133): `P.C <- 0`. -/
def handleClc (_ : Operand) (s : State) : Except Diagnostic State :=
  .ok (s.setFlag .C false)

/-- `CLC`, mode IMP (R133). -/
def execClc (s : State) : StepResult := executeWith .imp handleClc s

/-- SEC (R134): `P.C <- 1`. -/
def handleSec (_ : Operand) (s : State) : Except Diagnostic State :=
  .ok (s.setFlag .C true)

/-- `SEC`, mode IMP (R134). -/
def execSec (s : State) : StepResult := executeWith .imp handleSec s

/-- CLI (R135): `P.I <- 0`. -/
def handleCli (_ : Operand) (s : State) : Except Diagnostic State :=
  .ok (s.setFlag .I false)

/-- `CLI`, mode IMP (R135). -/
def execCli (s : State) : StepResult := executeWith .imp handleCli s

/-- SEI (R136): `P.I <- 1`. -/
def handleSei (_ : Operand) (s : State) : Except Diagnostic State :=
  .ok (s.setFlag .I true)

/-- `SEI`, mode IMP (R136). -/
def execSei (s : State) : StepResult := executeWith .imp handleSei s

/-- CLV (R137): `P.V <- 0`. -/
def handleClv (_ : Operand) (s : State) : Except Diagnostic State :=
  .ok (s.setFlag .V false)

/-- `CLV`, mode IMP (R137). -/
def execClv (s : State) : StepResult := executeWith .imp handleClv s

/-- CLD (R138): `P.D <- 0`. -/
def handleCld (_ : Operand) (s : State) : Except Diagnostic State :=
  .ok (s.setFlag .D false)

/-- `CLD`, mode IMP (R138). -/
def execCld (s : State) : StepResult := executeWith .imp handleCld s

/-- SED (R139): `P.D <- 1`. -/
def handleSed (_ : Operand) (s : State) : Except Diagnostic State :=
  .ok (s.setFlag .D true)

/-- `SED`, mode IMP (R139). -/
def execSed (s : State) : StepResult := executeWith .imp handleSed s

/-- NOP (R140): nothing but the PC advance. -/
def handleNop (_ : Operand) (s : State) : Except Diagnostic State :=
  .ok (s)

/-- `NOP`, mode IMP (R140). -/
def execNop (s : State) : StepResult := executeWith .imp handleNop s

/-- BRK (R141): raises; nothing is pushed, no flag is set, no vector is read. -/
def handleBrk (_ : Operand) (_ : State) : Except Diagnostic State :=
  .error (.unimplementedSemantics .brk)

/-- `BRK`, mode IMP (R141). -/
def execBrk (s : State) : StepResult := executeWith .imp handleBrk s

/-- RTI (R142): raises; nothing is pulled. -/
def handleRti (_ : Operand) (_ : State) : Except Diagnostic State :=
  .error (.unimplementedSemantics .rti)

/-- `RTI`, mode IMP (R142). -/
def execRti (s : State) : StepResult := executeWith .imp handleRti s

end Sys2Proof.Machine
end

