-- ==== Sys2Proof/Machine/Dispatch.lean ====
section
/-! DEFINITION. Dispatch: each machine instruction to its meaning, one arm for each row of `opcode_table.json`
(`48_dispatch_and_step.md` R143, R145). -/

namespace Sys2Proof.Machine

def exec (i : Instr) (s : State) : Host.Outcome State Fault Refusal :=
  match i with
  | .ldaImm op1 => Sys2Proof.Machine.execLdaImm op1 s
  | .ldaZp op1 => Sys2Proof.Machine.execLdaZp op1 s
  | .ldaZpx op1 => Sys2Proof.Machine.execLdaZpx op1 s
  | .ldaAbs op1 op2 => Sys2Proof.Machine.execLdaAbs op1 op2 s
  | .ldaAbx op1 op2 => Sys2Proof.Machine.execLdaAbx op1 op2 s
  | .ldaAby op1 op2 => Sys2Proof.Machine.execLdaAby op1 op2 s
  | .ldaIzx op1 => Sys2Proof.Machine.execLdaIzx op1 s
  | .ldaIzy op1 => Sys2Proof.Machine.execLdaIzy op1 s
  | .ldxImm op1 => Sys2Proof.Machine.execLdxImm op1 s
  | .ldxZp op1 => Sys2Proof.Machine.execLdxZp op1 s
  | .ldxZpy op1 => Sys2Proof.Machine.execLdxZpy op1 s
  | .ldxAbs op1 op2 => Sys2Proof.Machine.execLdxAbs op1 op2 s
  | .ldxAby op1 op2 => Sys2Proof.Machine.execLdxAby op1 op2 s
  | .ldyImm op1 => Sys2Proof.Machine.execLdyImm op1 s
  | .ldyZp op1 => Sys2Proof.Machine.execLdyZp op1 s
  | .ldyZpx op1 => Sys2Proof.Machine.execLdyZpx op1 s
  | .ldyAbs op1 op2 => Sys2Proof.Machine.execLdyAbs op1 op2 s
  | .ldyAbx op1 op2 => Sys2Proof.Machine.execLdyAbx op1 op2 s
  | .staZp op1 => Sys2Proof.Machine.execStaZp op1 s
  | .staZpx op1 => Sys2Proof.Machine.execStaZpx op1 s
  | .staAbs op1 op2 => Sys2Proof.Machine.execStaAbs op1 op2 s
  | .staAbx op1 op2 => Sys2Proof.Machine.execStaAbx op1 op2 s
  | .staAby op1 op2 => Sys2Proof.Machine.execStaAby op1 op2 s
  | .staIzx op1 => Sys2Proof.Machine.execStaIzx op1 s
  | .staIzy op1 => Sys2Proof.Machine.execStaIzy op1 s
  | .stxZp op1 => Sys2Proof.Machine.execStxZp op1 s
  | .stxZpy op1 => Sys2Proof.Machine.execStxZpy op1 s
  | .stxAbs op1 op2 => Sys2Proof.Machine.execStxAbs op1 op2 s
  | .styZp op1 => Sys2Proof.Machine.execStyZp op1 s
  | .styZpx op1 => Sys2Proof.Machine.execStyZpx op1 s
  | .styAbs op1 op2 => Sys2Proof.Machine.execStyAbs op1 op2 s
  | .tax => Sys2Proof.Machine.execTax s
  | .tay => Sys2Proof.Machine.execTay s
  | .txa => Sys2Proof.Machine.execTxa s
  | .tya => Sys2Proof.Machine.execTya s
  | .tsx => Sys2Proof.Machine.execTsx s
  | .txs => Sys2Proof.Machine.execTxs s
  | .andImm op1 => Sys2Proof.Machine.execAndImm op1 s
  | .andZp op1 => Sys2Proof.Machine.execAndZp op1 s
  | .andZpx op1 => Sys2Proof.Machine.execAndZpx op1 s
  | .andAbs op1 op2 => Sys2Proof.Machine.execAndAbs op1 op2 s
  | .andAbx op1 op2 => Sys2Proof.Machine.execAndAbx op1 op2 s
  | .andAby op1 op2 => Sys2Proof.Machine.execAndAby op1 op2 s
  | .andIzx op1 => Sys2Proof.Machine.execAndIzx op1 s
  | .andIzy op1 => Sys2Proof.Machine.execAndIzy op1 s
  | .oraImm op1 => Sys2Proof.Machine.execOraImm op1 s
  | .oraZp op1 => Sys2Proof.Machine.execOraZp op1 s
  | .oraZpx op1 => Sys2Proof.Machine.execOraZpx op1 s
  | .oraAbs op1 op2 => Sys2Proof.Machine.execOraAbs op1 op2 s
  | .oraAbx op1 op2 => Sys2Proof.Machine.execOraAbx op1 op2 s
  | .oraAby op1 op2 => Sys2Proof.Machine.execOraAby op1 op2 s
  | .oraIzx op1 => Sys2Proof.Machine.execOraIzx op1 s
  | .oraIzy op1 => Sys2Proof.Machine.execOraIzy op1 s
  | .eorImm op1 => Sys2Proof.Machine.execEorImm op1 s
  | .eorZp op1 => Sys2Proof.Machine.execEorZp op1 s
  | .eorZpx op1 => Sys2Proof.Machine.execEorZpx op1 s
  | .eorAbs op1 op2 => Sys2Proof.Machine.execEorAbs op1 op2 s
  | .eorAbx op1 op2 => Sys2Proof.Machine.execEorAbx op1 op2 s
  | .eorAby op1 op2 => Sys2Proof.Machine.execEorAby op1 op2 s
  | .eorIzx op1 => Sys2Proof.Machine.execEorIzx op1 s
  | .eorIzy op1 => Sys2Proof.Machine.execEorIzy op1 s
  | .incZp op1 => Sys2Proof.Machine.execIncZp op1 s
  | .incZpx op1 => Sys2Proof.Machine.execIncZpx op1 s
  | .incAbs op1 op2 => Sys2Proof.Machine.execIncAbs op1 op2 s
  | .incAbx op1 op2 => Sys2Proof.Machine.execIncAbx op1 op2 s
  | .decZp op1 => Sys2Proof.Machine.execDecZp op1 s
  | .decZpx op1 => Sys2Proof.Machine.execDecZpx op1 s
  | .decAbs op1 op2 => Sys2Proof.Machine.execDecAbs op1 op2 s
  | .decAbx op1 op2 => Sys2Proof.Machine.execDecAbx op1 op2 s
  | .inx => Sys2Proof.Machine.execInx s
  | .iny => Sys2Proof.Machine.execIny s
  | .dex => Sys2Proof.Machine.execDex s
  | .dey => Sys2Proof.Machine.execDey s
  | .aslAcc => Sys2Proof.Machine.execAslAcc s
  | .aslZp op1 => Sys2Proof.Machine.execAslZp op1 s
  | .aslZpx op1 => Sys2Proof.Machine.execAslZpx op1 s
  | .aslAbs op1 op2 => Sys2Proof.Machine.execAslAbs op1 op2 s
  | .aslAbx op1 op2 => Sys2Proof.Machine.execAslAbx op1 op2 s
  | .lsrAcc => Sys2Proof.Machine.execLsrAcc s
  | .lsrZp op1 => Sys2Proof.Machine.execLsrZp op1 s
  | .lsrZpx op1 => Sys2Proof.Machine.execLsrZpx op1 s
  | .lsrAbs op1 op2 => Sys2Proof.Machine.execLsrAbs op1 op2 s
  | .lsrAbx op1 op2 => Sys2Proof.Machine.execLsrAbx op1 op2 s
  | .rolAcc => Sys2Proof.Machine.execRolAcc s
  | .rolZp op1 => Sys2Proof.Machine.execRolZp op1 s
  | .rolZpx op1 => Sys2Proof.Machine.execRolZpx op1 s
  | .rolAbs op1 op2 => Sys2Proof.Machine.execRolAbs op1 op2 s
  | .rolAbx op1 op2 => Sys2Proof.Machine.execRolAbx op1 op2 s
  | .rorAcc => Sys2Proof.Machine.execRorAcc s
  | .rorZp op1 => Sys2Proof.Machine.execRorZp op1 s
  | .rorZpx op1 => Sys2Proof.Machine.execRorZpx op1 s
  | .rorAbs op1 op2 => Sys2Proof.Machine.execRorAbs op1 op2 s
  | .rorAbx op1 op2 => Sys2Proof.Machine.execRorAbx op1 op2 s
  | .adcImm op1 => Sys2Proof.Machine.execAdcImm op1 s
  | .adcZp op1 => Sys2Proof.Machine.execAdcZp op1 s
  | .adcZpx op1 => Sys2Proof.Machine.execAdcZpx op1 s
  | .adcAbs op1 op2 => Sys2Proof.Machine.execAdcAbs op1 op2 s
  | .adcAbx op1 op2 => Sys2Proof.Machine.execAdcAbx op1 op2 s
  | .adcAby op1 op2 => Sys2Proof.Machine.execAdcAby op1 op2 s
  | .adcIzx op1 => Sys2Proof.Machine.execAdcIzx op1 s
  | .adcIzy op1 => Sys2Proof.Machine.execAdcIzy op1 s
  | .sbcImm op1 => Sys2Proof.Machine.execSbcImm op1 s
  | .sbcZp op1 => Sys2Proof.Machine.execSbcZp op1 s
  | .sbcZpx op1 => Sys2Proof.Machine.execSbcZpx op1 s
  | .sbcAbs op1 op2 => Sys2Proof.Machine.execSbcAbs op1 op2 s
  | .sbcAbx op1 op2 => Sys2Proof.Machine.execSbcAbx op1 op2 s
  | .sbcAby op1 op2 => Sys2Proof.Machine.execSbcAby op1 op2 s
  | .sbcIzx op1 => Sys2Proof.Machine.execSbcIzx op1 s
  | .sbcIzy op1 => Sys2Proof.Machine.execSbcIzy op1 s
  | .cmpImm op1 => Sys2Proof.Machine.execCmpImm op1 s
  | .cmpZp op1 => Sys2Proof.Machine.execCmpZp op1 s
  | .cmpZpx op1 => Sys2Proof.Machine.execCmpZpx op1 s
  | .cmpAbs op1 op2 => Sys2Proof.Machine.execCmpAbs op1 op2 s
  | .cmpAbx op1 op2 => Sys2Proof.Machine.execCmpAbx op1 op2 s
  | .cmpAby op1 op2 => Sys2Proof.Machine.execCmpAby op1 op2 s
  | .cmpIzx op1 => Sys2Proof.Machine.execCmpIzx op1 s
  | .cmpIzy op1 => Sys2Proof.Machine.execCmpIzy op1 s
  | .cpxImm op1 => Sys2Proof.Machine.execCpxImm op1 s
  | .cpxZp op1 => Sys2Proof.Machine.execCpxZp op1 s
  | .cpxAbs op1 op2 => Sys2Proof.Machine.execCpxAbs op1 op2 s
  | .cpyImm op1 => Sys2Proof.Machine.execCpyImm op1 s
  | .cpyZp op1 => Sys2Proof.Machine.execCpyZp op1 s
  | .cpyAbs op1 op2 => Sys2Proof.Machine.execCpyAbs op1 op2 s
  | .bitZp op1 => Sys2Proof.Machine.execBitZp op1 s
  | .bitAbs op1 op2 => Sys2Proof.Machine.execBitAbs op1 op2 s
  | .pha => Sys2Proof.Machine.execPha s
  | .php => Sys2Proof.Machine.execPhp s
  | .pla => Sys2Proof.Machine.execPla s
  | .plp => Sys2Proof.Machine.execPlp s
  | .jmpAbs op1 op2 => Sys2Proof.Machine.execJmpAbs op1 op2 s
  | .jmpInd op1 op2 => Sys2Proof.Machine.execJmpInd op1 op2 s
  | .jsr op1 op2 => Sys2Proof.Machine.execJsr op1 op2 s
  | .rts => Sys2Proof.Machine.execRts s
  | .bpl op1 => Sys2Proof.Machine.execBpl op1 s
  | .bmi op1 => Sys2Proof.Machine.execBmi op1 s
  | .bvc op1 => Sys2Proof.Machine.execBvc op1 s
  | .bvs op1 => Sys2Proof.Machine.execBvs op1 s
  | .bcc op1 => Sys2Proof.Machine.execBcc op1 s
  | .bcs op1 => Sys2Proof.Machine.execBcs op1 s
  | .bne op1 => Sys2Proof.Machine.execBne op1 s
  | .beq op1 => Sys2Proof.Machine.execBeq op1 s
  | .clc => Sys2Proof.Machine.execClc s
  | .sec => Sys2Proof.Machine.execSec s
  | .cli => Sys2Proof.Machine.execCli s
  | .sei => Sys2Proof.Machine.execSei s
  | .clv => Sys2Proof.Machine.execClv s
  | .cld => Sys2Proof.Machine.execCld s
  | .sed => Sys2Proof.Machine.execSed s
  | .nop => Sys2Proof.Machine.execNop s
  | .brk => Sys2Proof.Machine.execBrk s
  | .rti => Sys2Proof.Machine.execRti s

end Sys2Proof.Machine
end

