-- ==== Sys2Proof/WellFormed.lean ====
section
/-! DEFINITION. Well-formedness of a decoded record (`48_dispatch_and_step.md` R148, `30_encoding.md` R47 and R52). An
`Instr` carries its operand bytes by its type and is well formed by construction; a record the host hands over need
not be. -/

namespace Sys2Proof

/-- The modes of a mnemonic: its non-empty cells in the first table of `30_encoding.md` R51. -/
def admittedModes : Mnemonic → List Mode
  | .lda => [.imm, .zp, .zpx, .abs, .abx, .aby, .izx, .izy]
  | .ldx => [.imm, .zp, .zpy, .abs, .aby]
  | .ldy => [.imm, .zp, .zpx, .abs, .abx]
  | .sta => [.zp, .zpx, .abs, .abx, .aby, .izx, .izy]
  | .stx => [.zp, .zpy, .abs]
  | .sty => [.zp, .zpx, .abs]
  | .tax => [.imp]
  | .tay => [.imp]
  | .txa => [.imp]
  | .tya => [.imp]
  | .tsx => [.imp]
  | .txs => [.imp]
  | .and => [.imm, .zp, .zpx, .abs, .abx, .aby, .izx, .izy]
  | .ora => [.imm, .zp, .zpx, .abs, .abx, .aby, .izx, .izy]
  | .eor => [.imm, .zp, .zpx, .abs, .abx, .aby, .izx, .izy]
  | .inc => [.zp, .zpx, .abs, .abx]
  | .dec => [.zp, .zpx, .abs, .abx]
  | .inx => [.imp]
  | .iny => [.imp]
  | .dex => [.imp]
  | .dey => [.imp]
  | .asl => [.acc, .zp, .zpx, .abs, .abx]
  | .lsr => [.acc, .zp, .zpx, .abs, .abx]
  | .rol => [.acc, .zp, .zpx, .abs, .abx]
  | .ror => [.acc, .zp, .zpx, .abs, .abx]
  | .adc => [.imm, .zp, .zpx, .abs, .abx, .aby, .izx, .izy]
  | .sbc => [.imm, .zp, .zpx, .abs, .abx, .aby, .izx, .izy]
  | .cmp => [.imm, .zp, .zpx, .abs, .abx, .aby, .izx, .izy]
  | .cpx => [.imm, .zp, .abs]
  | .cpy => [.imm, .zp, .abs]
  | .bit => [.zp, .abs]
  | .pha => [.imp]
  | .php => [.imp]
  | .pla => [.imp]
  | .plp => [.imp]
  | .jmp => [.abs, .ind]
  | .jsr => [.abs]
  | .rts => [.imp]
  | .bpl => [.rel]
  | .bmi => [.rel]
  | .bvc => [.rel]
  | .bvs => [.rel]
  | .bcc => [.rel]
  | .bcs => [.rel]
  | .bne => [.rel]
  | .beq => [.rel]
  | .clc => [.imp]
  | .sec => [.imp]
  | .cli => [.imp]
  | .sei => [.imp]
  | .clv => [.imp]
  | .cld => [.imp]
  | .sed => [.imp]
  | .nop => [.imp]
  | .brk => [.imp]
  | .rti => [.imp]

/-- The (mnemonic, mode) pair is one of the 151 admitted pairs (`30_encoding.md` R52). -/
def admitted (m : Mnemonic) (mode : Mode) : Bool := (admittedModes m).contains mode

/-- The record carries exactly the operand bytes its mode needs (`30_encoding.md` R47). -/
def Record.operandBytesFit (r : Record) : Bool := (operandFrom r.mode r.op1 r.op2).isSome

/-- The record's length is the length of its mode (`30_encoding.md` R47). -/
def Record.lengthFits (r : Record) : Bool := r.length == r.mode.length

/-- A record is well formed when its pair is admitted, its operand bytes are those its mode needs and its length is
the length of its mode; with an unknown mnemonic only its length counts, 1 to 3 (`48_dispatch_and_step.md` R148,
`93_implementation_defined.md` U6). -/
def Record.wellFormed (r : Record) : Bool :=
  match r.opcode with
  | .known m => admitted m r.mode && r.operandBytesFit && r.lengthFits
  | .unknown _ => decide (1 ≤ r.length) && decide (r.length ≤ 3)

/-- An instruction is well formed when the record it stands for is. -/
def Instr.wellFormed (i : Instr) : Bool := (recordOf i).wellFormed

end Sys2Proof
end

