-- ==== Sys2Proof/Decode.lean ====
section
/-! DEFINITION. The byte formats and the opcode map of `30_encoding.md` R48 to R53: the decoder, total on any bytes,
which rejects by name, and after it the encoder, written from the other table of R51. -/

namespace Sys2Proof

/-- One non-empty cell of the 16 by 16 matrix of `30_encoding.md` R51, with the instruction its operand bytes make. -/
structure OpcodeRow where
  opcode : Byte
  mnemonic : Mnemonic
  mode : Mode
  /-- The instruction, from the first and the second operand byte; a byte the mode lacks is ignored. -/
  build : Byte → Byte → Instr

/-- Row 0x of the matrix. -/
def opcodeRow0x : List OpcodeRow := [
  ⟨0x00#8, .brk, .imp, fun _ _ => .brk⟩,
  ⟨0x01#8, .ora, .izx, fun op1 _ => .oraIzx op1⟩,
  ⟨0x05#8, .ora, .zp, fun op1 _ => .oraZp op1⟩,
  ⟨0x06#8, .asl, .zp, fun op1 _ => .aslZp op1⟩,
  ⟨0x08#8, .php, .imp, fun _ _ => .php⟩,
  ⟨0x09#8, .ora, .imm, fun op1 _ => .oraImm op1⟩,
  ⟨0x0A#8, .asl, .acc, fun _ _ => .aslAcc⟩,
  ⟨0x0D#8, .ora, .abs, fun op1 op2 => .oraAbs op1 op2⟩,
  ⟨0x0E#8, .asl, .abs, fun op1 op2 => .aslAbs op1 op2⟩]

/-- Row 1x of the matrix. -/
def opcodeRow1x : List OpcodeRow := [
  ⟨0x10#8, .bpl, .rel, fun op1 _ => .bpl op1⟩,
  ⟨0x11#8, .ora, .izy, fun op1 _ => .oraIzy op1⟩,
  ⟨0x15#8, .ora, .zpx, fun op1 _ => .oraZpx op1⟩,
  ⟨0x16#8, .asl, .zpx, fun op1 _ => .aslZpx op1⟩,
  ⟨0x18#8, .clc, .imp, fun _ _ => .clc⟩,
  ⟨0x19#8, .ora, .aby, fun op1 op2 => .oraAby op1 op2⟩,
  ⟨0x1D#8, .ora, .abx, fun op1 op2 => .oraAbx op1 op2⟩,
  ⟨0x1E#8, .asl, .abx, fun op1 op2 => .aslAbx op1 op2⟩]

/-- Row 2x of the matrix. -/
def opcodeRow2x : List OpcodeRow := [
  ⟨0x20#8, .jsr, .abs, fun op1 op2 => .jsr op1 op2⟩,
  ⟨0x21#8, .and, .izx, fun op1 _ => .andIzx op1⟩,
  ⟨0x24#8, .bit, .zp, fun op1 _ => .bitZp op1⟩,
  ⟨0x25#8, .and, .zp, fun op1 _ => .andZp op1⟩,
  ⟨0x26#8, .rol, .zp, fun op1 _ => .rolZp op1⟩,
  ⟨0x28#8, .plp, .imp, fun _ _ => .plp⟩,
  ⟨0x29#8, .and, .imm, fun op1 _ => .andImm op1⟩,
  ⟨0x2A#8, .rol, .acc, fun _ _ => .rolAcc⟩,
  ⟨0x2C#8, .bit, .abs, fun op1 op2 => .bitAbs op1 op2⟩,
  ⟨0x2D#8, .and, .abs, fun op1 op2 => .andAbs op1 op2⟩,
  ⟨0x2E#8, .rol, .abs, fun op1 op2 => .rolAbs op1 op2⟩]

/-- Row 3x of the matrix. -/
def opcodeRow3x : List OpcodeRow := [
  ⟨0x30#8, .bmi, .rel, fun op1 _ => .bmi op1⟩,
  ⟨0x31#8, .and, .izy, fun op1 _ => .andIzy op1⟩,
  ⟨0x35#8, .and, .zpx, fun op1 _ => .andZpx op1⟩,
  ⟨0x36#8, .rol, .zpx, fun op1 _ => .rolZpx op1⟩,
  ⟨0x38#8, .sec, .imp, fun _ _ => .sec⟩,
  ⟨0x39#8, .and, .aby, fun op1 op2 => .andAby op1 op2⟩,
  ⟨0x3D#8, .and, .abx, fun op1 op2 => .andAbx op1 op2⟩,
  ⟨0x3E#8, .rol, .abx, fun op1 op2 => .rolAbx op1 op2⟩]

/-- Row 4x of the matrix. -/
def opcodeRow4x : List OpcodeRow := [
  ⟨0x40#8, .rti, .imp, fun _ _ => .rti⟩,
  ⟨0x41#8, .eor, .izx, fun op1 _ => .eorIzx op1⟩,
  ⟨0x45#8, .eor, .zp, fun op1 _ => .eorZp op1⟩,
  ⟨0x46#8, .lsr, .zp, fun op1 _ => .lsrZp op1⟩,
  ⟨0x48#8, .pha, .imp, fun _ _ => .pha⟩,
  ⟨0x49#8, .eor, .imm, fun op1 _ => .eorImm op1⟩,
  ⟨0x4A#8, .lsr, .acc, fun _ _ => .lsrAcc⟩,
  ⟨0x4C#8, .jmp, .abs, fun op1 op2 => .jmpAbs op1 op2⟩,
  ⟨0x4D#8, .eor, .abs, fun op1 op2 => .eorAbs op1 op2⟩,
  ⟨0x4E#8, .lsr, .abs, fun op1 op2 => .lsrAbs op1 op2⟩]

/-- Row 5x of the matrix. -/
def opcodeRow5x : List OpcodeRow := [
  ⟨0x50#8, .bvc, .rel, fun op1 _ => .bvc op1⟩,
  ⟨0x51#8, .eor, .izy, fun op1 _ => .eorIzy op1⟩,
  ⟨0x55#8, .eor, .zpx, fun op1 _ => .eorZpx op1⟩,
  ⟨0x56#8, .lsr, .zpx, fun op1 _ => .lsrZpx op1⟩,
  ⟨0x58#8, .cli, .imp, fun _ _ => .cli⟩,
  ⟨0x59#8, .eor, .aby, fun op1 op2 => .eorAby op1 op2⟩,
  ⟨0x5D#8, .eor, .abx, fun op1 op2 => .eorAbx op1 op2⟩,
  ⟨0x5E#8, .lsr, .abx, fun op1 op2 => .lsrAbx op1 op2⟩]

/-- Row 6x of the matrix. -/
def opcodeRow6x : List OpcodeRow := [
  ⟨0x60#8, .rts, .imp, fun _ _ => .rts⟩,
  ⟨0x61#8, .adc, .izx, fun op1 _ => .adcIzx op1⟩,
  ⟨0x65#8, .adc, .zp, fun op1 _ => .adcZp op1⟩,
  ⟨0x66#8, .ror, .zp, fun op1 _ => .rorZp op1⟩,
  ⟨0x68#8, .pla, .imp, fun _ _ => .pla⟩,
  ⟨0x69#8, .adc, .imm, fun op1 _ => .adcImm op1⟩,
  ⟨0x6A#8, .ror, .acc, fun _ _ => .rorAcc⟩,
  ⟨0x6C#8, .jmp, .ind, fun op1 op2 => .jmpInd op1 op2⟩,
  ⟨0x6D#8, .adc, .abs, fun op1 op2 => .adcAbs op1 op2⟩,
  ⟨0x6E#8, .ror, .abs, fun op1 op2 => .rorAbs op1 op2⟩]

/-- Row 7x of the matrix. -/
def opcodeRow7x : List OpcodeRow := [
  ⟨0x70#8, .bvs, .rel, fun op1 _ => .bvs op1⟩,
  ⟨0x71#8, .adc, .izy, fun op1 _ => .adcIzy op1⟩,
  ⟨0x75#8, .adc, .zpx, fun op1 _ => .adcZpx op1⟩,
  ⟨0x76#8, .ror, .zpx, fun op1 _ => .rorZpx op1⟩,
  ⟨0x78#8, .sei, .imp, fun _ _ => .sei⟩,
  ⟨0x79#8, .adc, .aby, fun op1 op2 => .adcAby op1 op2⟩,
  ⟨0x7D#8, .adc, .abx, fun op1 op2 => .adcAbx op1 op2⟩,
  ⟨0x7E#8, .ror, .abx, fun op1 op2 => .rorAbx op1 op2⟩]

/-- Row 8x of the matrix. -/
def opcodeRow8x : List OpcodeRow := [
  ⟨0x81#8, .sta, .izx, fun op1 _ => .staIzx op1⟩,
  ⟨0x84#8, .sty, .zp, fun op1 _ => .styZp op1⟩,
  ⟨0x85#8, .sta, .zp, fun op1 _ => .staZp op1⟩,
  ⟨0x86#8, .stx, .zp, fun op1 _ => .stxZp op1⟩,
  ⟨0x88#8, .dey, .imp, fun _ _ => .dey⟩,
  ⟨0x8A#8, .txa, .imp, fun _ _ => .txa⟩,
  ⟨0x8C#8, .sty, .abs, fun op1 op2 => .styAbs op1 op2⟩,
  ⟨0x8D#8, .sta, .abs, fun op1 op2 => .staAbs op1 op2⟩,
  ⟨0x8E#8, .stx, .abs, fun op1 op2 => .stxAbs op1 op2⟩]

/-- Row 9x of the matrix. -/
def opcodeRow9x : List OpcodeRow := [
  ⟨0x90#8, .bcc, .rel, fun op1 _ => .bcc op1⟩,
  ⟨0x91#8, .sta, .izy, fun op1 _ => .staIzy op1⟩,
  ⟨0x94#8, .sty, .zpx, fun op1 _ => .styZpx op1⟩,
  ⟨0x95#8, .sta, .zpx, fun op1 _ => .staZpx op1⟩,
  ⟨0x96#8, .stx, .zpy, fun op1 _ => .stxZpy op1⟩,
  ⟨0x98#8, .tya, .imp, fun _ _ => .tya⟩,
  ⟨0x99#8, .sta, .aby, fun op1 op2 => .staAby op1 op2⟩,
  ⟨0x9A#8, .txs, .imp, fun _ _ => .txs⟩,
  ⟨0x9D#8, .sta, .abx, fun op1 op2 => .staAbx op1 op2⟩]

/-- Row Ax of the matrix. -/
def opcodeRowAx : List OpcodeRow := [
  ⟨0xA0#8, .ldy, .imm, fun op1 _ => .ldyImm op1⟩,
  ⟨0xA1#8, .lda, .izx, fun op1 _ => .ldaIzx op1⟩,
  ⟨0xA2#8, .ldx, .imm, fun op1 _ => .ldxImm op1⟩,
  ⟨0xA4#8, .ldy, .zp, fun op1 _ => .ldyZp op1⟩,
  ⟨0xA5#8, .lda, .zp, fun op1 _ => .ldaZp op1⟩,
  ⟨0xA6#8, .ldx, .zp, fun op1 _ => .ldxZp op1⟩,
  ⟨0xA8#8, .tay, .imp, fun _ _ => .tay⟩,
  ⟨0xA9#8, .lda, .imm, fun op1 _ => .ldaImm op1⟩,
  ⟨0xAA#8, .tax, .imp, fun _ _ => .tax⟩,
  ⟨0xAC#8, .ldy, .abs, fun op1 op2 => .ldyAbs op1 op2⟩,
  ⟨0xAD#8, .lda, .abs, fun op1 op2 => .ldaAbs op1 op2⟩,
  ⟨0xAE#8, .ldx, .abs, fun op1 op2 => .ldxAbs op1 op2⟩]

/-- Row Bx of the matrix. -/
def opcodeRowBx : List OpcodeRow := [
  ⟨0xB0#8, .bcs, .rel, fun op1 _ => .bcs op1⟩,
  ⟨0xB1#8, .lda, .izy, fun op1 _ => .ldaIzy op1⟩,
  ⟨0xB4#8, .ldy, .zpx, fun op1 _ => .ldyZpx op1⟩,
  ⟨0xB5#8, .lda, .zpx, fun op1 _ => .ldaZpx op1⟩,
  ⟨0xB6#8, .ldx, .zpy, fun op1 _ => .ldxZpy op1⟩,
  ⟨0xB8#8, .clv, .imp, fun _ _ => .clv⟩,
  ⟨0xB9#8, .lda, .aby, fun op1 op2 => .ldaAby op1 op2⟩,
  ⟨0xBA#8, .tsx, .imp, fun _ _ => .tsx⟩,
  ⟨0xBC#8, .ldy, .abx, fun op1 op2 => .ldyAbx op1 op2⟩,
  ⟨0xBD#8, .lda, .abx, fun op1 op2 => .ldaAbx op1 op2⟩,
  ⟨0xBE#8, .ldx, .aby, fun op1 op2 => .ldxAby op1 op2⟩]

/-- Row Cx of the matrix. -/
def opcodeRowCx : List OpcodeRow := [
  ⟨0xC0#8, .cpy, .imm, fun op1 _ => .cpyImm op1⟩,
  ⟨0xC1#8, .cmp, .izx, fun op1 _ => .cmpIzx op1⟩,
  ⟨0xC4#8, .cpy, .zp, fun op1 _ => .cpyZp op1⟩,
  ⟨0xC5#8, .cmp, .zp, fun op1 _ => .cmpZp op1⟩,
  ⟨0xC6#8, .dec, .zp, fun op1 _ => .decZp op1⟩,
  ⟨0xC8#8, .iny, .imp, fun _ _ => .iny⟩,
  ⟨0xC9#8, .cmp, .imm, fun op1 _ => .cmpImm op1⟩,
  ⟨0xCA#8, .dex, .imp, fun _ _ => .dex⟩,
  ⟨0xCC#8, .cpy, .abs, fun op1 op2 => .cpyAbs op1 op2⟩,
  ⟨0xCD#8, .cmp, .abs, fun op1 op2 => .cmpAbs op1 op2⟩,
  ⟨0xCE#8, .dec, .abs, fun op1 op2 => .decAbs op1 op2⟩]

/-- Row Dx of the matrix. -/
def opcodeRowDx : List OpcodeRow := [
  ⟨0xD0#8, .bne, .rel, fun op1 _ => .bne op1⟩,
  ⟨0xD1#8, .cmp, .izy, fun op1 _ => .cmpIzy op1⟩,
  ⟨0xD5#8, .cmp, .zpx, fun op1 _ => .cmpZpx op1⟩,
  ⟨0xD6#8, .dec, .zpx, fun op1 _ => .decZpx op1⟩,
  ⟨0xD8#8, .cld, .imp, fun _ _ => .cld⟩,
  ⟨0xD9#8, .cmp, .aby, fun op1 op2 => .cmpAby op1 op2⟩,
  ⟨0xDD#8, .cmp, .abx, fun op1 op2 => .cmpAbx op1 op2⟩,
  ⟨0xDE#8, .dec, .abx, fun op1 op2 => .decAbx op1 op2⟩]

/-- Row Ex of the matrix. -/
def opcodeRowEx : List OpcodeRow := [
  ⟨0xE0#8, .cpx, .imm, fun op1 _ => .cpxImm op1⟩,
  ⟨0xE1#8, .sbc, .izx, fun op1 _ => .sbcIzx op1⟩,
  ⟨0xE4#8, .cpx, .zp, fun op1 _ => .cpxZp op1⟩,
  ⟨0xE5#8, .sbc, .zp, fun op1 _ => .sbcZp op1⟩,
  ⟨0xE6#8, .inc, .zp, fun op1 _ => .incZp op1⟩,
  ⟨0xE8#8, .inx, .imp, fun _ _ => .inx⟩,
  ⟨0xE9#8, .sbc, .imm, fun op1 _ => .sbcImm op1⟩,
  ⟨0xEA#8, .nop, .imp, fun _ _ => .nop⟩,
  ⟨0xEC#8, .cpx, .abs, fun op1 op2 => .cpxAbs op1 op2⟩,
  ⟨0xED#8, .sbc, .abs, fun op1 op2 => .sbcAbs op1 op2⟩,
  ⟨0xEE#8, .inc, .abs, fun op1 op2 => .incAbs op1 op2⟩]

/-- Row Fx of the matrix. -/
def opcodeRowFx : List OpcodeRow := [
  ⟨0xF0#8, .beq, .rel, fun op1 _ => .beq op1⟩,
  ⟨0xF1#8, .sbc, .izy, fun op1 _ => .sbcIzy op1⟩,
  ⟨0xF5#8, .sbc, .zpx, fun op1 _ => .sbcZpx op1⟩,
  ⟨0xF6#8, .inc, .zpx, fun op1 _ => .incZpx op1⟩,
  ⟨0xF8#8, .sed, .imp, fun _ _ => .sed⟩,
  ⟨0xF9#8, .sbc, .aby, fun op1 op2 => .sbcAby op1 op2⟩,
  ⟨0xFD#8, .sbc, .abx, fun op1 op2 => .sbcAbx op1 op2⟩,
  ⟨0xFE#8, .inc, .abx, fun op1 op2 => .incAbx op1 op2⟩]

/-- The rows of the matrix by the high nibble of the opcode byte. -/
def matrixRow : Nat → List OpcodeRow
  | 0 => opcodeRow0x
  | 1 => opcodeRow1x
  | 2 => opcodeRow2x
  | 3 => opcodeRow3x
  | 4 => opcodeRow4x
  | 5 => opcodeRow5x
  | 6 => opcodeRow6x
  | 7 => opcodeRow7x
  | 8 => opcodeRow8x
  | 9 => opcodeRow9x
  | 10 => opcodeRowAx
  | 11 => opcodeRowBx
  | 12 => opcodeRowCx
  | 13 => opcodeRowDx
  | 14 => opcodeRowEx
  | 15 => opcodeRowFx
  | _ => []

/-- The opcode map: the non-empty cells of the matrix, the 151 documented opcode bytes (`30_encoding.md` R51). -/
def opcodeTable : List OpcodeRow := (List.range 16).flatMap matrixRow

/-- The map's entry for an opcode byte; none for the 105 illegal bytes (`30_encoding.md` R53). -/
def rowOf (opcode : Byte) : Option OpcodeRow :=
  (matrixRow (opcode.toNat / 16)).find? (fun row => row.opcode == opcode)

/-- Why bytes do not decode. -/
inductive DecodeError where
  /-- There is no byte to decode. -/
  | noBytes
  /-- The first byte is one of the 105 illegal opcode bytes (`30_encoding.md` R53). -/
  | illegalOpcode (opcode : Byte)
  /-- The list ends before the operand bytes that the opcode byte calls for. -/
  | missingOperandBytes
  deriving DecidableEq, Repr

/-- The instruction at the front of a list of bytes, lowest address first, and the bytes after it
(`30_encoding.md` R48 to R51); an operand byte that the mode lacks is ignored by the row's `build`. -/
def decode : List Byte → Except DecodeError (Instr × List Byte)
  | [] => .error .noBytes
  | opcode :: rest =>
      match rowOf opcode with
      | none => .error (.illegalOpcode opcode)
      | some row =>
          if rest.length < row.mode.operandBytes then .error .missingOperandBytes
          else .ok (row.build (rest.getD 0 0) (rest.getD 1 0), rest.drop row.mode.operandBytes)

/-- The length of an encoded instruction, a function of its opcode byte alone; an illegal byte has length
`ILLEGAL_LENGTH` (`30_encoding.md` R50). -/
def lengthOfOpcode (opcode : Byte) : Nat :=
  match rowOf opcode with
  | none => Config.illegalLength
  | some row => row.mode.length

/-- Byte `k` of a number whose bit 0 is bit 0 of the first byte. -/
def byteOfNumber (w k : Nat) : Byte := BitVec.ofNat 8 (w / 256 ^ k)

/-- The three bytes, lowest address first, that the low `nbits` bits of `w` are laid out in, as `opcode_table.json`
numbers an instruction's bits; every bit from `nbits` on is 0. -/
def bytesOfTableWord (nbits w : Nat) : List Byte :=
  [byteOfNumber (w % 2 ^ nbits) 0, byteOfNumber (w % 2 ^ nbits) 1, byteOfNumber (w % 2 ^ nbits) 2]

/-- The instruction the decoder reads from the low `nbits` bits of `w`. -/
def decodeTableWord (nbits w : Nat) : Option Instr :=
  match decode (bytesOfTableWord nbits w) with
  | .ok (i, _) => some i
  | .error _ => none

/-- The opcode byte of an instruction: its cell in the first table of `30_encoding.md` R51. -/
def opcodeOf : Instr → Byte
  | .ldaImm _ => 0xA9#8
  | .ldaZp _ => 0xA5#8
  | .ldaZpx _ => 0xB5#8
  | .ldaAbs _ _ => 0xAD#8
  | .ldaAbx _ _ => 0xBD#8
  | .ldaAby _ _ => 0xB9#8
  | .ldaIzx _ => 0xA1#8
  | .ldaIzy _ => 0xB1#8
  | .ldxImm _ => 0xA2#8
  | .ldxZp _ => 0xA6#8
  | .ldxZpy _ => 0xB6#8
  | .ldxAbs _ _ => 0xAE#8
  | .ldxAby _ _ => 0xBE#8
  | .ldyImm _ => 0xA0#8
  | .ldyZp _ => 0xA4#8
  | .ldyZpx _ => 0xB4#8
  | .ldyAbs _ _ => 0xAC#8
  | .ldyAbx _ _ => 0xBC#8
  | .staZp _ => 0x85#8
  | .staZpx _ => 0x95#8
  | .staAbs _ _ => 0x8D#8
  | .staAbx _ _ => 0x9D#8
  | .staAby _ _ => 0x99#8
  | .staIzx _ => 0x81#8
  | .staIzy _ => 0x91#8
  | .stxZp _ => 0x86#8
  | .stxZpy _ => 0x96#8
  | .stxAbs _ _ => 0x8E#8
  | .styZp _ => 0x84#8
  | .styZpx _ => 0x94#8
  | .styAbs _ _ => 0x8C#8
  | .tax => 0xAA#8
  | .tay => 0xA8#8
  | .txa => 0x8A#8
  | .tya => 0x98#8
  | .tsx => 0xBA#8
  | .txs => 0x9A#8
  | .andImm _ => 0x29#8
  | .andZp _ => 0x25#8
  | .andZpx _ => 0x35#8
  | .andAbs _ _ => 0x2D#8
  | .andAbx _ _ => 0x3D#8
  | .andAby _ _ => 0x39#8
  | .andIzx _ => 0x21#8
  | .andIzy _ => 0x31#8
  | .oraImm _ => 0x09#8
  | .oraZp _ => 0x05#8
  | .oraZpx _ => 0x15#8
  | .oraAbs _ _ => 0x0D#8
  | .oraAbx _ _ => 0x1D#8
  | .oraAby _ _ => 0x19#8
  | .oraIzx _ => 0x01#8
  | .oraIzy _ => 0x11#8
  | .eorImm _ => 0x49#8
  | .eorZp _ => 0x45#8
  | .eorZpx _ => 0x55#8
  | .eorAbs _ _ => 0x4D#8
  | .eorAbx _ _ => 0x5D#8
  | .eorAby _ _ => 0x59#8
  | .eorIzx _ => 0x41#8
  | .eorIzy _ => 0x51#8
  | .incZp _ => 0xE6#8
  | .incZpx _ => 0xF6#8
  | .incAbs _ _ => 0xEE#8
  | .incAbx _ _ => 0xFE#8
  | .decZp _ => 0xC6#8
  | .decZpx _ => 0xD6#8
  | .decAbs _ _ => 0xCE#8
  | .decAbx _ _ => 0xDE#8
  | .inx => 0xE8#8
  | .iny => 0xC8#8
  | .dex => 0xCA#8
  | .dey => 0x88#8
  | .aslAcc => 0x0A#8
  | .aslZp _ => 0x06#8
  | .aslZpx _ => 0x16#8
  | .aslAbs _ _ => 0x0E#8
  | .aslAbx _ _ => 0x1E#8
  | .lsrAcc => 0x4A#8
  | .lsrZp _ => 0x46#8
  | .lsrZpx _ => 0x56#8
  | .lsrAbs _ _ => 0x4E#8
  | .lsrAbx _ _ => 0x5E#8
  | .rolAcc => 0x2A#8
  | .rolZp _ => 0x26#8
  | .rolZpx _ => 0x36#8
  | .rolAbs _ _ => 0x2E#8
  | .rolAbx _ _ => 0x3E#8
  | .rorAcc => 0x6A#8
  | .rorZp _ => 0x66#8
  | .rorZpx _ => 0x76#8
  | .rorAbs _ _ => 0x6E#8
  | .rorAbx _ _ => 0x7E#8
  | .adcImm _ => 0x69#8
  | .adcZp _ => 0x65#8
  | .adcZpx _ => 0x75#8
  | .adcAbs _ _ => 0x6D#8
  | .adcAbx _ _ => 0x7D#8
  | .adcAby _ _ => 0x79#8
  | .adcIzx _ => 0x61#8
  | .adcIzy _ => 0x71#8
  | .sbcImm _ => 0xE9#8
  | .sbcZp _ => 0xE5#8
  | .sbcZpx _ => 0xF5#8
  | .sbcAbs _ _ => 0xED#8
  | .sbcAbx _ _ => 0xFD#8
  | .sbcAby _ _ => 0xF9#8
  | .sbcIzx _ => 0xE1#8
  | .sbcIzy _ => 0xF1#8
  | .cmpImm _ => 0xC9#8
  | .cmpZp _ => 0xC5#8
  | .cmpZpx _ => 0xD5#8
  | .cmpAbs _ _ => 0xCD#8
  | .cmpAbx _ _ => 0xDD#8
  | .cmpAby _ _ => 0xD9#8
  | .cmpIzx _ => 0xC1#8
  | .cmpIzy _ => 0xD1#8
  | .cpxImm _ => 0xE0#8
  | .cpxZp _ => 0xE4#8
  | .cpxAbs _ _ => 0xEC#8
  | .cpyImm _ => 0xC0#8
  | .cpyZp _ => 0xC4#8
  | .cpyAbs _ _ => 0xCC#8
  | .bitZp _ => 0x24#8
  | .bitAbs _ _ => 0x2C#8
  | .pha => 0x48#8
  | .php => 0x08#8
  | .pla => 0x68#8
  | .plp => 0x28#8
  | .jmpAbs _ _ => 0x4C#8
  | .jmpInd _ _ => 0x6C#8
  | .jsr _ _ => 0x20#8
  | .rts => 0x60#8
  | .bpl _ => 0x10#8
  | .bmi _ => 0x30#8
  | .bvc _ => 0x50#8
  | .bvs _ => 0x70#8
  | .bcc _ => 0x90#8
  | .bcs _ => 0xB0#8
  | .bne _ => 0xD0#8
  | .beq _ => 0xF0#8
  | .clc => 0x18#8
  | .sec => 0x38#8
  | .cli => 0x58#8
  | .sei => 0x78#8
  | .clv => 0xB8#8
  | .cld => 0xD8#8
  | .sed => 0xF8#8
  | .nop => 0xEA#8
  | .brk => 0x00#8
  | .rti => 0x40#8

/-- The bytes of an instruction, lowest address first: the opcode byte, then the operand bytes (`30_encoding.md` R48). -/
def encode (i : Instr) : List Byte := opcodeOf i :: (operandOf i).bytes

end Sys2Proof
end

