-- ==== Sys2Proof/Machine/Fetch.lean ====
section
/-! DEFINITION. Fetch and decode of the byte-level front end (`48_dispatch_and_step.md` R150, R151), and placing an
instruction's bytes where the next fetch reads them. -/

namespace Sys2Proof.Machine

/-- The address of byte `k` of the instruction at `PC`; it wraps at the top of memory (`48_dispatch_and_step.md` R151). -/
def fetchAddress (s : State) (k : Nat) : Addr := s.pc + BitVec.ofNat 16 k

/-- The opcode byte that the next step reads (`48_dispatch_and_step.md` R150). -/
def fetchOpcode (s : State) : Byte := s.memRead (fetchAddress s 0)

/-- The length of the instruction at `PC`, from its opcode byte (`30_encoding.md` R50). -/
def fetchLength (s : State) : Nat := lengthOfOpcode (fetchOpcode s)

/-- Fetch and decode (`48_dispatch_and_step.md` R150): the instruction at `PC`, or the illegal opcode byte there. An
operand byte is read only where the length calls for it. -/
def fetchInstr (s : State) : Except Byte Instr :=
  match rowOf (fetchOpcode s) with
  | none => .error (fetchOpcode s)
  | some row =>
      .ok (row.build (if 2 ≤ row.mode.length then s.memRead (fetchAddress s 1) else 0)
        (if row.mode.length = 3 then s.memRead (fetchAddress s 2) else 0))

/-- The step of an illegal opcode byte (`30_encoding.md` R53): `PC` advances by `ILLEGAL_LENGTH`, the byte is reported. -/
def runIllegal (opcode : Byte) (s : State) : StepResult := runUnknown Config.illegalLength (.byte opcode) s

/-- The bytes of a list stored from an address on, wrapping at the top of memory. -/
def storeBytes : Addr → List Byte → State → State
  | _, [], s => s
  | addr, b :: rest, s => storeBytes (addr + 1) rest (s.memWrite addr b)

/-- The low `nbits` bits of `w`, laid out in three bytes as `opcode_table.json` numbers them, stored at `PC` on. -/
def placeTableWord (s : State) (nbits w : Nat) : State := storeBytes s.pc (bytesOfTableWord nbits w) s

end Sys2Proof.Machine
end

