-- ==== Sys2Proof/Machine/Step.lean ====
section
/-! DEFINITION. One step of the machine, the byte-level step `StepBytes()` (`48_dispatch_and_step.md` R150), and the
state in which the next step runs a given word. -/

namespace Sys2Proof.Machine

/-- `StepBytes()` (`48_dispatch_and_step.md` R150): fetch, decode, and `Execute` on what was decoded. -/
def step (s : State) : Host.Outcome State Fault Refusal :=
  match fetchInstr s with
  | .ok i => exec i s
  | .error opcode => runIllegal opcode s

/-- The state with an instruction's bits stored where `step` fetches its next instruction (log entry 9). -/
def State.withFetchWord (s : State) (nbits w : Nat) : State := placeTableWord s nbits w

end Sys2Proof.Machine
end

