-- ==== Sys2Proof/Machine/Bus.lean ====
section
/-! DEFINITION. The memory transactions of a step, in order (`20_memory.md` R46; the memory port of
`48_dispatch_and_step.md` R153): exactly the `MemRead` and `MemWrite` calls of the pseudocode, and no others. -/

namespace Sys2Proof.Machine

/-- One transaction of the memory port: `mem_addr`, `mem_we`, and the byte written or read. -/
structure BusAccess where
  addr : Addr
  we : Bool
  data : Byte
  deriving DecidableEq, Repr

/-- A `MemRead` in the state `s`. -/
def readAccess (s : State) (addr : Addr) : BusAccess := ⟨addr, false, s.memRead addr⟩

/-- A `MemWrite`. -/
def writeAccess (addr : Addr) (v : Byte) : BusAccess := ⟨addr, true, v⟩

/-- The reads that resolving an address makes: the pointer bytes, low byte first (`40_addressing_and_operands.md` R65 to
R67 and the table of section 4). -/
def pointerReads (o : Operand) (s : State) : List BusAccess :=
  match o with
  | .ind op1 op2 => [readAccess s (operandWord op1 op2), readAccess s (samePageSucc (operandWord op1 op2))]
  | .izx op1 => [readAccess s (zext16 (op1 + s.x)), readAccess s (zext16 (op1 + s.x + 1))]
  | .izy op1 => [readAccess s (zext16 op1), readAccess s (zext16 (op1 + 1))]
  | .imp | .acc | .imm _ | .zp _ | .zpx _ | .zpy _ | .abs _ _ | .abx _ _ | .aby _ _ | .rel _ => []

/-- The accesses of a handler that goes on with the effective address: the pointer reads, then those at the address;
none where there is no address. -/
def addressedAccesses (o : Operand) (atAddress : Addr → List BusAccess) (s : State) : List BusAccess :=
  match resolveAddress o s with
  | .ok ea => pointerReads o s ++ atAddress ea
  | .error _ => []

/-- The accesses of `ReadOperand` (`40_addressing_and_operands.md` R70): none for ACC and IMM. -/
def operandReads (o : Operand) (s : State) : List BusAccess := addressedAccesses o (fun ea => [readAccess s ea]) s

/-- The accesses of a store: the pointer reads and one write (`41_load_store_transfer.md` R77 to R79). -/
def storeAccesses (v : Byte) (o : Operand) (s : State) : List BusAccess :=
  addressedAccesses o (fun ea => [writeAccess ea v]) s

/-- The accesses of a read-modify-write: one read, one write, no dummy write; none in mode ACC (`20_memory.md` R46). -/
def modifyAccesses (f : Byte → Byte) (o : Operand) (s : State) : List BusAccess :=
  addressedAccesses o (fun ea => [readAccess s ea, writeAccess ea (f (s.memRead ea))]) s

/-- The data accesses of the handler of a mnemonic, run in the state `s` with `PC` advanced. -/
def dataAccesses (m : Mnemonic) (o : Operand) (s : State) : List BusAccess :=
  match m with
  | .lda | .ldx | .ldy | .and | .ora | .eor | .cmp | .cpx | .cpy | .bit => operandReads o s
  | .adc | .sbc => if s.flag .D then [] else operandReads o s
  | .sta => storeAccesses s.a o s
  | .stx => storeAccesses s.x o s
  | .sty => storeAccesses s.y o s
  | .inc => modifyAccesses (fun b => b + 1) o s
  | .dec => modifyAccesses (fun b => b - 1) o s
  | .asl => modifyAccesses (fun b => (shifted aslFn b s).1) o s
  | .lsr => modifyAccesses (fun b => (shifted lsrFn b s).1) o s
  | .rol => modifyAccesses (fun b => (shifted rolFn b s).1) o s
  | .ror => modifyAccesses (fun b => (shifted rorFn b s).1) o s
  | .jmp => addressedAccesses o (fun _ => []) s
  | .jsr =>
      addressedAccesses o (fun _ => [writeAccess (stackAddress s.sp) (hiByte (s.pc - 1)),
        writeAccess (stackAddress (s.sp - 1)) (loByte (s.pc - 1))]) s
  | .rts => [readAccess s (stackAddress (s.sp + 1)), readAccess s (stackAddress (s.sp + 1 + 1))]
  | .pha => [writeAccess (stackAddress s.sp) s.a]
  | .php => [writeAccess (stackAddress s.sp) (s.p ||| Flag.mask .U)]
  | .pla | .plp => [readAccess s (stackAddress (s.sp + 1))]
  | .tax | .tay | .txa | .tya | .tsx | .txs | .inx | .iny | .dex | .dey | .bpl | .bmi | .bvc | .bvs | .bcc | .bcs
  | .bne | .beq | .clc | .sec | .cli | .sei | .clv | .cld | .sed | .nop | .brk | .rti => []

/-- The data accesses of a machine instruction executed in the state `s`. -/
def instrAccesses (i : Instr) (s : State) : List BusAccess :=
  dataAccesses (mnemonicOf i) (operandOf i) (s.beginStep (lengthOf i))

/-- The reads of the fetch: exactly `len` bytes in ascending order (`48_dispatch_and_step.md` R150, R151). -/
def fetchAccesses (s : State) : List BusAccess :=
  (List.range (fetchLength s)).map (fun k => readAccess s (fetchAddress s k))

/-- All memory transactions of the byte-level step: the fetch, then the data accesses. -/
def stepAccesses (s : State) : List BusAccess :=
  fetchAccesses s ++ (match fetchInstr s with
    | .ok i => instrAccesses i s
    | .error _ => [])

/-- Address and direction of each transaction of a list, in order: `mem_addr` and `mem_we`
(`48_dispatch_and_step.md` R153). -/
def placesOf (accesses : List BusAccess) : List (Addr × Bool) := accesses.map (fun acc => (acc.addr, acc.we))

/-- A memory after the writes of a list of transactions, in order. -/
def replayWrites : List BusAccess → Memory → Memory
  | [], m => m
  | acc :: rest, m => replayWrites rest (if acc.we then m.write acc.addr acc.data else m)

end Sys2Proof.Machine
end

