-- ==== Sys2Proof/Machine/RecordLevel.lean ====
section
/-! DEFINITION. The record-level front end: the dispatch table from mnemonics to handlers and `Execute` on the record the
host hands over, ill-formed records among them (`48_dispatch_and_step.md` R143 to R149). -/

namespace Sys2Proof.Machine

/-- The dispatch table (`48_dispatch_and_step.md` R145): one handler for each of the 56 mnemonics. -/
def handlerOf : Mnemonic → Operand → State → Except Diagnostic State
  | .lda => handleLda
  | .ldx => handleLdx
  | .ldy => handleLdy
  | .sta => handleSta
  | .stx => handleStx
  | .sty => handleSty
  | .tax => handleTax
  | .tay => handleTay
  | .txa => handleTxa
  | .tya => handleTya
  | .tsx => handleTsx
  | .txs => handleTxs
  | .and => handleAnd
  | .ora => handleOra
  | .eor => handleEor
  | .inc => handleInc
  | .dec => handleDec
  | .inx => handleInx
  | .iny => handleIny
  | .dex => handleDex
  | .dey => handleDey
  | .asl => handleAsl
  | .lsr => handleLsr
  | .rol => handleRol
  | .ror => handleRor
  | .adc => handleAdc
  | .sbc => handleSbc
  | .cmp => handleCmp
  | .cpx => handleCpx
  | .cpy => handleCpy
  | .bit => handleBit
  | .pha => handlePha
  | .php => handlePhp
  | .pla => handlePla
  | .plp => handlePlp
  | .jmp => handleJmp
  | .jsr => handleJsr
  | .rts => handleRts
  | .bpl => handleBpl
  | .bmi => handleBmi
  | .bvc => handleBvc
  | .bvs => handleBvs
  | .bcc => handleBcc
  | .bcs => handleBcs
  | .bne => handleBne
  | .beq => handleBeq
  | .clc => handleClc
  | .sec => handleSec
  | .cli => handleCli
  | .sei => handleSei
  | .clv => handleClv
  | .cld => handleCld
  | .sed => handleSed
  | .nop => handleNop
  | .brk => handleBrk
  | .rti => handleRti

/-- The modes of kind (a) of a mnemonic: those that give its handler no address or operand, by the routines the handler
uses in TZ's structure (`48_dispatch_and_step.md` R148, the table of kind (a)). -/
def modesWithoutOperand : Mnemonic → List Mode
  | .lda | .ldx | .ldy | .and | .ora | .eor | .adc | .sbc | .cmp | .cpx | .cpy | .bit => [.imp, .rel]
  | .sta | .stx | .sty | .jmp | .jsr => [.acc, .imm, .imp, .rel]
  | .asl | .lsr | .rol | .ror | .inc | .dec => [.imm, .imp, .rel]
  | .tax | .tay | .txa | .tya | .tsx | .txs | .inx | .iny | .dex | .dey | .pha | .php | .pla | .plp | .rts
  | .bpl | .bmi | .bvc | .bvs | .bcc | .bcs | .bne | .beq | .clc | .sec | .cli | .sei | .clv | .cld | .sed
  | .nop | .brk | .rti => []

/-- Whether `Execute` has a behaviour for a known mnemonic in a mode: the pair is admitted, or ill formed of kind (a)
(`48_dispatch_and_step.md` R148). -/
def hasBehaviour (m : Mnemonic) (mode : Mode) : Bool := admitted m mode || (modesWithoutOperand m).contains mode

/-- `Execute(ins)` for a record with one of the 56 mnemonics (`48_dispatch_and_step.md` R143, R148): the handler runs on
an admitted record; a record of kind (a) runs too and its operand routine raises; every other one is refused. -/
def executeKnown (m : Mnemonic) (r : Record) (s : State) : StepResult :=
  match operandFrom r.mode r.op1 r.op2 with
  | none => .refused .illFormedRecord
  | some o =>
      if r.lengthFits && hasBehaviour m r.mode then executeWith o (handlerOf m) s
      else .refused .illFormedRecord

/-- `Execute(ins)` (`48_dispatch_and_step.md` R143). An unknown mnemonic is a no-op that is reported (R146); a length
outside 1 to 3 is refused (`93_implementation_defined.md` U6). Nothing is compared with memory (R149). -/
def executeRecord (r : Record) (s : State) : StepResult :=
  match r.opcode with
  | .known m => executeKnown m r s
  | .unknown name =>
      if r.wellFormed then runUnknown r.length (.mnemonic name) s else .refused .illFormedRecord

end Sys2Proof.Machine
end

