-- ==== Sys2Proof/Machine/Block.lean ====
section
/-! DEFINITION. The block as the host sees it: the abstract interface of `48_dispatch_and_step.md` R153, the host's moves
between steps (`20_memory.md` R45, `70_reset_and_hazards.md` R169 and R172), and what it observes
(`60_exceptions.md` R167). -/

namespace Sys2Proof.Machine

/-- The inputs of one transaction (`48_dispatch_and_step.md` R153). -/
structure Inputs where
  reset : Bool
  step : Bool
  /-- Used only when `FRONT_END = record`. -/
  insIn : Record
  deriving DecidableEq, Repr

/-- One transaction of the block (`48_dispatch_and_step.md` R153): `reset` applies `Reset()` instead of a step, `step`
performs one step of the front end. DESIGN CHOICE (log entry 8): with neither input the state stays as it is. -/
def transaction (frontEnd : Config.FrontEnd) (inputs : Inputs) (s : State) : StepResult :=
  if inputs.reset then .next s.applyReset
  else if inputs.step then
    match frontEnd with
    | .bytes => step s
    | .record => executeRecord inputs.insIn s
  else .next s

/-- The memory transactions of one step of the record level: those of the handler that runs (`20_memory.md` R46). -/
def recordAccesses (r : Record) (s : State) : List BusAccess :=
  match r.opcode, operandFrom r.mode r.op1 r.op2 with
  | .known m, some o =>
      if r.lengthFits && hasBehaviour m r.mode then dataAccesses m o (s.beginStep r.length) else []
  | .known _, none => []
  | .unknown _, _ => []

/-- The memory port of one transaction; reset makes no memory access (`70_reset_and_hazards.md` R169). -/
def transactionAccesses (frontEnd : Config.FrontEnd) (inputs : Inputs) (s : State) : List BusAccess :=
  if inputs.reset then []
  else if inputs.step then
    match frontEnd with
    | .bytes => stepAccesses s
    | .record => recordAccesses inputs.insIn s
  else []

/-- The observation outputs and the output `diag` (`48_dispatch_and_step.md` R153, `60_exceptions.md` R167). -/
structure Outputs where
  diag : BitVec 2
  obsA : Byte
  obsX : Byte
  obsY : Byte
  obsSP : Byte
  obsP : Byte
  obsPC : Addr
  deriving DecidableEq, Repr

/-- What the outputs show in a state: `P` as stored, and the code of the last step's report. -/
def outputs (s : State) : Outputs :=
  ⟨(reportCode s.report).code, s.a, s.x, s.y, s.sp, s.p, s.pc⟩

/-- The host's moves between steps. -/
inductive HostAction where
  /-- A direct memory poke (`20_memory.md` R45). -/
  | poke (addr : Addr) (v : Byte)
  /-- Setting a register for test setup (`70_reset_and_hazards.md` R172). -/
  | setA (v : Byte)
  | setX (v : Byte)
  | setY (v : Byte)
  | setSP (v : Byte)
  | setPC (v : Addr)
  | setP (v : Byte)
  /-- `Reset()` (`70_reset_and_hazards.md` R169). -/
  | reset
  deriving DecidableEq, Repr

/-- The state after a move of the host: what the move names changes and nothing else. -/
def hostAct : HostAction → State → State
  | .poke addr v, s => s.memWrite addr v
  | .setA v, s => s.setA v
  | .setX v, s => s.setX v
  | .setY v, s => s.setY v
  | .setSP v, s => s.setSP v
  | .setPC v, s => s.setPC v
  | .setP v, s => s.setP v
  | .reset, s => s.applyReset

/-- The host reads any byte, and reading changes nothing (`60_exceptions.md` R167). -/
def hostRead (addr : Addr) (s : State) : Byte := s.memRead addr

end Sys2Proof.Machine
end

