-- ==== Sys2Proof/Safety.lean ====
section
/-! DEFINITION. What claims about runs are stated in: the states past an instruction, the invariant of the
state, and histories of steps and host moves in one total order (`20_memory.md` R41). -/

namespace Sys2Proof.Machine

/-- The 105 illegal opcode bytes, as `30_encoding.md` R53 lists them. -/
def illegalOpcodes : List Byte :=
  [0x02, 0x03, 0x04, 0x07, 0x0B, 0x0C, 0x0F, 0x12, 0x13, 0x14, 0x17, 0x1A, 0x1B, 0x1C, 0x1F] ++
  [0x22, 0x23, 0x27, 0x2B, 0x2F, 0x32, 0x33, 0x34, 0x37, 0x3A, 0x3B, 0x3C, 0x3F, 0x42, 0x43] ++
  [0x44, 0x47, 0x4B, 0x4F, 0x52, 0x53, 0x54, 0x57, 0x5A, 0x5B, 0x5C, 0x5F, 0x62, 0x63, 0x64] ++
  [0x67, 0x6B, 0x6F, 0x72, 0x73, 0x74, 0x77, 0x7A, 0x7B, 0x7C, 0x7F, 0x80, 0x82, 0x83, 0x87] ++
  [0x89, 0x8B, 0x8F, 0x92, 0x93, 0x97, 0x9B, 0x9C, 0x9E, 0x9F, 0xA3, 0xA7, 0xAB, 0xAF, 0xB2] ++
  [0xB3, 0xB7, 0xBB, 0xBF, 0xC2, 0xC3, 0xC7, 0xCB, 0xCF, 0xD2, 0xD3, 0xD4, 0xD7, 0xDA, 0xDB] ++
  [0xDC, 0xDF, 0xE2, 0xE3, 0xE7, 0xEB, 0xEF, 0xF2, 0xF3, 0xF4, 0xF7, 0xFA, 0xFB, 0xFC, 0xFF]

/-- The state past an instruction whose handler changes nothing: `PC` advanced by the length, nothing reported
(`48_dispatch_and_step.md` R143, R144). -/
def State.past (i : Instr) (s : State) : State :=
  { s with pc := s.pc + BitVec.ofNat 16 (lengthOf i), report := none }

/-- The state past an instruction that raised the diagnostic `d`: nothing but `PC`, the report and `DIAG` has changed, and
`DIAG` keeps the first code that is not 0 (`60_exceptions.md` R158, R159). -/
def State.pastRaising (i : Instr) (d : Diagnostic) (s : State) : State :=
  { s with pc := s.pc + BitVec.ofNat 16 (lengthOf i), report := some d,
           diag := if s.diag = .none then d.code else s.diag }

/-- The flag byte `q` is `p` with N and Z set from the byte `v`, the other six flags as they were
(`41_load_store_transfer.md` R73). -/
def NZSet (v p q : Byte) : Prop :=
  ∀ f, flagIn q f =
    if f = .N then decide (128 ≤ v.toNat) else if f = .Z then decide (v.toNat = 0) else flagIn p f

/-- A step's report and the sticky status agree: a reported diagnostic has been kept in `DIAG`
(`60_exceptions.md` R159). -/
def State.reportKept (s : State) : Bool := s.report.isNone || (s.diag != .none)

/-- The invariant of the state: memory is in its canonical form and no reported diagnostic is missing from `DIAG`. -/
def State.Inv (s : State) : Prop := s.mem.wf = true ∧ s.reportKept = true

/-- One event of a history: a step of the byte level, a record executed, or a move of the host. -/
inductive Event where
  | step
  | record (r : Record)
  | host (action : HostAction)
  deriving DecidableEq, Repr

/-- The state after an event. -/
def runEvent (e : Event) (s : State) : StepResult :=
  match e with
  | .step => step s
  | .record r => executeRecord r s
  | .host action => .next (hostAct action s)

/-- The state after a history of events, one after another, stopping where a record is refused. -/
def runEvents : List Event → State → StepResult
  | [], s => .next s
  | e :: rest, s =>
      match runEvent e s with
      | .next t => runEvents rest t
      | .fault f => .fault f
      | .refused r => .refused r

end Sys2Proof.Machine
end

