-- ==== Sys2Proof/Certificates/Slice0/Obligations.lean ====
section
/-! DEFINITION. The statements for the provers, in the order of OBLIGATIONS.json: encoding, the step, addressing, flags,
the instruction families, diagnostics, frames, memory and the invariant, reset and the host, the record level, the
memory port. -/

open Sys2Proof Sys2Proof.Machine

/-- Decoding the encoding of any instruction gives it back, whatever bytes follow, with every operand at every value
(R47 to R52). -/
def Obligations.DecodeInvertsEncode : Prop :=
  ∀ (i : Instr) (rest : List Byte), decode (encode i ++ rest) = .ok (i, rest)

/-- Where bytes decode, they are the encoding of the instruction they decode to: each word has one meaning. -/
def Obligations.EncodeInvertsDecode : Prop :=
  ∀ (bytes rest : List Byte) (i : Instr), decode bytes = .ok (i, rest) → bytes = encode i ++ rest

/-- The opcode map has 151 cells with 151 distinct opcode bytes, their (mnemonic, mode) pairs are the admitted pairs, and
an instruction is known by its mnemonic and its operand form (R51, R52). -/
def Obligations.AdmittedPairsAreTheInstructions : Prop :=
  opcodeTable.length = 151 ∧ (opcodeTable.map (fun row => row.opcode)).Nodup ∧
  (∀ (m : Mnemonic) (mode : Mode),
    admitted m mode = true ↔ ∃ i : Instr, mnemonicOf i = m ∧ (operandOf i).mode = mode) ∧
  (∀ i j : Instr, mnemonicOf i = mnemonicOf j → operandOf i = operandOf j → i = j)

/-- The length is a function of the opcode byte alone: 1, 2 or 3 by the mode, as many bytes as the encoding has; a byte
outside the map has length 1 (R47, R50). -/
def Obligations.OpcodeByteDeterminesLength : Prop :=
  (∀ i : Instr, lengthOfOpcode (opcodeOf i) = (encode i).length ∧
    (encode i).length =
      (if (operandOf i).mode = .imp ∨ (operandOf i).mode = .acc then 1
       else if (operandOf i).mode = .abs ∨ (operandOf i).mode = .abx ∨ (operandOf i).mode = .aby ∨
         (operandOf i).mode = .ind then 3
       else 2)) ∧
  ∀ opcode ∈ illegalOpcodes, lengthOfOpcode opcode = 1

/-- Words written out from the opcode map decode to the instructions they stand for, one of each family. -/
def Obligations.SampleWordsDecode : Prop :=
  decodeTableWord 16 0x10B5 = some (.ldaZpx 0x10) ∧ decodeTableWord 24 0x12348D = some (.staAbs 0x34 0x12) ∧
  decodeTableWord 16 0x3C29 = some (.andImm 0x3C) ∧ decodeTableWord 8 0x6A = some .rorAcc ∧
  decodeTableWord 16 0x40F1 = some (.sbcIzy 0x40) ∧ decodeTableWord 8 0x08 = some .php ∧
  decodeTableWord 24 0x02FF6C = some (.jmpInd 0xFF 0x02) ∧ decodeTableWord 16 0xFDD0 = some (.bne 0xFD) ∧
  decodeTableWord 8 0xF8 = some .sed ∧ decodeTableWord 8 0x02 = none

/-- When the bytes at the program counter, wrapping at the top of memory, are the encoding of an instruction, the step is
`exec` of that instruction at that state and nothing more. -/
def Obligations.StepRunsDecodedInstruction : Prop :=
  ∀ (s : State) (i : Instr),
    (∀ k b, (encode i)[k]? = some b → s.memRead (s.pc + BitVec.ofNat 16 k) = b) → step s = exec i s

/-- The step of an illegal opcode byte: the program counter advances by 1, the byte is reported as unknown, nothing else
changes; every other byte is decoded (R53). -/
def Obligations.IllegalOpcodeStep : Prop :=
  illegalOpcodes.length = 105 ∧
  ∀ s : State,
    (s.memRead s.pc ∈ illegalOpcodes →
      step s = .next { s with pc := s.pc + 1, report := some (.unknownOpcode (.byte (s.memRead s.pc))),
                              diag := if s.diag = .none then .unknownOpcode else s.diag }) ∧
    (s.memRead s.pc ∉ illegalOpcodes → ∃ i, fetchInstr s = .ok i ∧ step s = exec i s)

/-- Every step of the byte level, from every state, has a next state (R147). -/
def Obligations.EveryStepHasNextState : Prop := ∀ s : State, ∃ t, step s = .next t

/-- Every instruction but JMP, JSR, RTS and the branches, whether or not it raises a diagnostic, leaves the program
counter advanced by its length modulo 65536 (R144). -/
def Obligations.PcAdvancesByLength : Prop :=
  ∀ (i : Instr) (s : State),
    mnemonicOf i ∉ [.jmp, .jsr, .rts, .bpl, .bmi, .bvc, .bvs, .bcc, .bcs, .bne, .beq] →
    ∃ t, exec i s = .next t ∧ t.pc.toNat = (s.pc.toNat + (encode i).length) % 65536

/-- A store into the bytes at the program counter is seen by the very next fetch: after an instruction's bytes are stored
there one by one, the step runs that instruction (R44). -/
def Obligations.StoredCodeIsFetched : Prop :=
  ∀ (i : Instr) (s : State), step (storeBytes s.pc (encode i) s) = exec i (storeBytes s.pc (encode i) s)

/-- The effective addresses of the zero-page and absolute modes, indexed and not (R59 to R64): a zero-page indexed sum
does not wrap into page zero, an absolute indexed sum wraps modulo 65536; resolving them reads no memory. -/
def Obligations.DirectAndIndexedAddresses : Prop :=
  ∀ (op1 op2 : Byte) (s : State),
    (∃ ea, resolveAddress (.zp op1) s = .ok ea ∧ ea.toNat = op1.toNat) ∧
    (∃ ea, resolveAddress (.zpx op1) s = .ok ea ∧ ea.toNat = op1.toNat + s.x.toNat) ∧
    (∃ ea, resolveAddress (.zpy op1) s = .ok ea ∧ ea.toNat = op1.toNat + s.y.toNat) ∧
    (∃ ea, resolveAddress (.abs op1 op2) s = .ok ea ∧ ea.toNat = op2.toNat * 256 + op1.toNat) ∧
    (∃ ea, resolveAddress (.abx op1 op2) s = .ok ea ∧
      ea.toNat = (op2.toNat * 256 + op1.toNat + s.x.toNat) % 65536) ∧
    (∃ ea, resolveAddress (.aby op1 op2) s = .ok ea ∧
      ea.toNat = (op2.toNat * 256 + op1.toNat + s.y.toNat) % 65536) ∧
    ∀ o : Operand, o.mode ∈ [.zp, .zpx, .zpy, .abs, .abx, .aby] → pointerReads o s = []

/-- The effective addresses of the pointer modes (R65 to R67): the JMP pointer's high byte comes from the pointer's own
page, both bytes of a zero-page pointer from page zero, the index of `(zp,X)` before and of `(zp),Y` after. -/
def Obligations.PointerAddresses : Prop :=
  ∀ (op1 op2 : Byte) (s : State),
    (∃ ea, resolveAddress (.ind op1 op2) s = .ok ea ∧
      ea.toNat = (s.memRead (BitVec.ofNat 16 (op2.toNat * 256 + (op1.toNat + 1) % 256))).toNat * 256 +
        (s.memRead (BitVec.ofNat 16 (op2.toNat * 256 + op1.toNat))).toNat) ∧
    (∃ ea, resolveAddress (.izx op1) s = .ok ea ∧
      ea.toNat = (s.memRead (BitVec.ofNat 16 ((op1.toNat + s.x.toNat + 1) % 256))).toNat * 256 +
        (s.memRead (BitVec.ofNat 16 ((op1.toNat + s.x.toNat) % 256))).toNat) ∧
    (∃ ea, resolveAddress (.izy op1) s = .ok ea ∧
      ea.toNat = ((s.memRead (BitVec.ofNat 16 ((op1.toNat + 1) % 256))).toNat * 256 +
        (s.memRead (BitVec.ofNat 16 op1.toNat)).toNat + s.y.toNat) % 65536)

/-- Operand fetch and result store (R70, R71): the accumulator, the embedded byte, or the byte at the effective address;
the modes that have none raise and name themselves, and so does address resolution. -/
def Obligations.OperandReadAndWriteByMode : Prop :=
  ∀ (o : Operand) (b : Byte) (s : State),
    (o.mode = .acc → readOperand o s = .ok s.a ∧ writeResult b o s = .ok { s with a := b }) ∧
    (∀ op1, o = .imm op1 → readOperand o s = .ok op1 ∧ writeResult b o s = .error (.invalidAddressForMode .imm)) ∧
    (o.mode = .imp ∨ o.mode = .rel → readOperand o s = .error (.invalidAddressForMode o.mode) ∧
      writeResult b o s = .error (.invalidAddressForMode o.mode)) ∧
    (o.mode ∈ [.acc, .imm, .imp, .rel] → resolveAddress o s = .error (.invalidAddressForMode o.mode)) ∧
    (o.mode ∉ [.acc, .imm, .imp, .rel] → ∃ ea, resolveAddress o s = .ok ea ∧
      readOperand o s = .ok (s.mem.read ea) ∧ writeResult b o s = .ok { s with mem := s.mem.write ea b })

/-- Resolving once is the same as TZ's structure, which resolves in `ReadOperand` and again in `WriteResult` after the
carry is written (R72, R95): every shift function, every operand form whose operand is read. -/
def Obligations.SingleResolutionIsTwoResolutions : Prop :=
  ∀ (f : Byte → Bool → Byte × Bool) (o : Operand) (s : State) (b : Byte), readOperand o s = .ok b →
    shiftWith f o s =
      (writeResult (f b (s.flag .C)).1 o (s.setFlag .C (f b (s.flag .C)).2)).map
        (fun u => u.updateNZ (f b (s.flag .C)).1)

/-- The layout of the flag byte, and independent test, set, clear and toggle of its named bits (R16). -/
def Obligations.FlagByteLayout : Prop :=
  State.reset.p = 0x00 ∧
  ∀ p : Byte,
    (flagIn p .N = p.getLsbD 7 ∧ flagIn p .V = p.getLsbD 6 ∧ flagIn p .B = p.getLsbD 5 ∧ flagIn p .U = p.getLsbD 4 ∧
      flagIn p .D = p.getLsbD 3 ∧ flagIn p .I = p.getLsbD 2 ∧ flagIn p .Z = p.getLsbD 1 ∧ flagIn p .C = p.getLsbD 0) ∧
    ∀ (f : Flag) (v : Bool) (k : Nat),
      (withFlag f v p).getLsbD k = (if k = f.bit then v else p.getLsbD k) ∧
      (toggledFlag f p).getLsbD k = (if k = f.bit then !p.getLsbD k else p.getLsbD k)

/-- `UpdateNZ(b)` (R73): Z set exactly for 0, N set exactly for 0x80 to 0xFF, both never at once, no other flag and no
other state changed. -/
def Obligations.UpdateNZSetsTwoFlags : Prop :=
  ∀ (s : State) (b : Byte),
    NZSet b s.p (s.updateNZ b).p ∧ s.updateNZ b = { s with p := (s.updateNZ b).p } ∧
    ¬ (flagIn (s.updateNZ b).p .Z = true ∧ flagIn (s.updateNZ b).p .N = true)

/-- LDA, LDX and LDY in every form: the operand goes to the register, N and Z come from it, and nothing else changes but
the program counter and the report (R74 to R76). -/
def Obligations.LoadsCompleteInEveryForm : Prop :=
  ∀ (i : Instr) (s : State),
    (mnemonicOf i = .lda → ∃ v t, readOperand (operandOf i) (s.past i) = .ok v ∧ exec i s = .next t ∧
      t = { s.past i with a := v, p := t.p } ∧ NZSet v s.p t.p) ∧
    (mnemonicOf i = .ldx → ∃ v t, readOperand (operandOf i) (s.past i) = .ok v ∧ exec i s = .next t ∧
      t = { s.past i with x := v, p := t.p } ∧ NZSet v s.p t.p) ∧
    (mnemonicOf i = .ldy → ∃ v t, readOperand (operandOf i) (s.past i) = .ok v ∧ exec i s = .next t ∧
      t = { s.past i with y := v, p := t.p } ∧ NZSet v s.p t.p)

/-- STA, STX and STY in every form: the register goes to the byte at the effective address; no flag and nothing else
changes but the program counter and the report (R77 to R79). -/
def Obligations.StoresCompleteInEveryForm : Prop :=
  ∀ (i : Instr) (s : State),
    (mnemonicOf i = .sta → ∃ ea, resolveAddress (operandOf i) (s.past i) = .ok ea ∧
      exec i s = .next { s.past i with mem := s.mem.write ea s.a }) ∧
    (mnemonicOf i = .stx → ∃ ea, resolveAddress (operandOf i) (s.past i) = .ok ea ∧
      exec i s = .next { s.past i with mem := s.mem.write ea s.x }) ∧
    (mnemonicOf i = .sty → ∃ ea, resolveAddress (operandOf i) (s.past i) = .ok ea ∧
      exec i s = .next { s.past i with mem := s.mem.write ea s.y })

/-- The six transfers complete: the source goes to the destination, N and Z come from the byte moved, TXS among them with
the parameter `TXS_UPDATES_NZ` at its value true; with false TXS writes `SP` only (R80 to R85). -/
def Obligations.TransfersComplete : Prop :=
  ∀ s : State,
    (∃ t, exec .tax s = .next t ∧ t = { s.past .tax with x := s.a, p := t.p } ∧ NZSet s.a s.p t.p) ∧
    (∃ t, exec .tay s = .next t ∧ t = { s.past .tay with y := s.a, p := t.p } ∧ NZSet s.a s.p t.p) ∧
    (∃ t, exec .txa s = .next t ∧ t = { s.past .txa with a := s.x, p := t.p } ∧ NZSet s.x s.p t.p) ∧
    (∃ t, exec .tya s = .next t ∧ t = { s.past .tya with a := s.y, p := t.p } ∧ NZSet s.y s.p t.p) ∧
    (∃ t, exec .tsx s = .next t ∧ t = { s.past .tsx with x := s.sp, p := t.p } ∧ NZSet s.sp s.p t.p) ∧
    (∃ t, exec .txs s = .next t ∧ t = { s.past .txs with sp := s.x, p := t.p } ∧ NZSet s.x s.p t.p) ∧
    s.transferXToSP false = { s with sp := s.x }

/-- AND, ORA and EOR in every form: the bitwise operation into the accumulator, N and Z from the result (R86 to R88). -/
def Obligations.LogicalCompletesInEveryForm : Prop :=
  ∀ (i : Instr) (s : State),
    (mnemonicOf i = .and → ∃ m t, readOperand (operandOf i) (s.past i) = .ok m ∧ exec i s = .next t ∧
      t = { s.past i with a := s.a &&& m, p := t.p } ∧ NZSet (s.a &&& m) s.p t.p) ∧
    (mnemonicOf i = .ora → ∃ m t, readOperand (operandOf i) (s.past i) = .ok m ∧ exec i s = .next t ∧
      t = { s.past i with a := s.a ||| m, p := t.p } ∧ NZSet (s.a ||| m) s.p t.p) ∧
    (mnemonicOf i = .eor → ∃ m t, readOperand (operandOf i) (s.past i) = .ok m ∧ exec i s = .next t ∧
      t = { s.past i with a := s.a ^^^ m, p := t.p } ∧ NZSet (s.a ^^^ m) s.p t.p)

/-- INC and DEC in every form: the byte at the effective address plus or minus 1 modulo 256 is written back, N and Z come
from it, C and V and the registers stay (R89, R90). -/
def Obligations.MemoryIncDecCompletesInEveryForm : Prop :=
  ∀ (i : Instr) (s : State),
    (mnemonicOf i = .inc → ∃ ea r t, resolveAddress (operandOf i) (s.past i) = .ok ea ∧ exec i s = .next t ∧
      r = BitVec.ofNat 8 (((s.memRead ea).toNat + 1) % 256) ∧
      t = { s.past i with mem := s.mem.write ea r, p := t.p } ∧ NZSet r s.p t.p) ∧
    (mnemonicOf i = .dec → ∃ ea r t, resolveAddress (operandOf i) (s.past i) = .ok ea ∧ exec i s = .next t ∧
      r = BitVec.ofNat 8 (((s.memRead ea).toNat + 255) % 256) ∧
      t = { s.past i with mem := s.mem.write ea r, p := t.p } ∧ NZSet r s.p t.p)

/-- INX, INY, DEX and DEY: plus or minus 1 modulo 256, N and Z from the result (R91 to R94). -/
def Obligations.IndexIncDecCompletes : Prop :=
  ∀ s : State,
    (∃ r t, exec .inx s = .next t ∧ r = BitVec.ofNat 8 ((s.x.toNat + 1) % 256) ∧
      t = { s.past .inx with x := r, p := t.p } ∧ NZSet r s.p t.p) ∧
    (∃ r t, exec .iny s = .next t ∧ r = BitVec.ofNat 8 ((s.y.toNat + 1) % 256) ∧
      t = { s.past .iny with y := r, p := t.p } ∧ NZSet r s.p t.p) ∧
    (∃ r t, exec .dex s = .next t ∧ r = BitVec.ofNat 8 ((s.x.toNat + 255) % 256) ∧
      t = { s.past .dex with x := r, p := t.p } ∧ NZSet r s.p t.p) ∧
    (∃ r t, exec .dey s = .next t ∧ r = BitVec.ofNat 8 ((s.y.toNat + 255) % 256) ∧
      t = { s.past .dey with y := r, p := t.p } ∧ NZSet r s.p t.p)

/-- The four shift functions as arithmetic on the byte and the carry in: the result, and the bit that leaves to the carry;
ROR undoes ROL, byte and carry. -/
def Obligations.ShiftFunctions : Prop :=
  ∀ (b : Byte) (c : Bool),
    ((aslFn b c).1.toNat = 2 * b.toNat % 256 ∧ (aslFn b c).2 = decide (128 ≤ b.toNat)) ∧
    ((lsrFn b c).1.toNat = b.toNat / 2 ∧ (lsrFn b c).2 = decide (b.toNat % 2 = 1)) ∧
    ((rolFn b c).1.toNat = (2 * b.toNat + bitOf c) % 256 ∧ (rolFn b c).2 = decide (128 ≤ b.toNat)) ∧
    ((rorFn b c).1.toNat = b.toNat / 2 + 128 * bitOf c ∧ (rorFn b c).2 = decide (b.toNat % 2 = 1)) ∧
    rorFn (rolFn b c).1 (rolFn b c).2 = (b, c)

/-- ASL, LSR, ROL and ROR in every form: the operand (the accumulator, or the byte at the effective address) and the old
carry give the result and the carry out, each instruction by its own arithmetic; the result goes back to the same place,
N and Z come from it, V and everything else stays (R95 to R99). -/
def Obligations.ShiftsCompleteInEveryForm : Prop :=
  ∀ (i : Instr) (s : State), mnemonicOf i ∈ [.asl, .lsr, .rol, .ror] →
    ∃ b r carry t, readOperand (operandOf i) (s.past i) = .ok b ∧ exec i s = .next t ∧
      (mnemonicOf i = .asl → r.toNat = 2 * b.toNat % 256 ∧ carry = decide (128 ≤ b.toNat)) ∧
      (mnemonicOf i = .lsr → r.toNat = b.toNat / 2 ∧ carry = decide (b.toNat % 2 = 1)) ∧
      (mnemonicOf i = .rol →
        r.toNat = (2 * b.toNat + bitOf (flagIn s.p .C)) % 256 ∧ carry = decide (128 ≤ b.toNat)) ∧
      (mnemonicOf i = .ror →
        r.toNat = b.toNat / 2 + 128 * bitOf (flagIn s.p .C) ∧ carry = decide (b.toNat % 2 = 1)) ∧
      (operandOf i = .acc → t = { s.past i with a := r, p := t.p }) ∧
      (operandOf i ≠ .acc → ∃ ea, resolveAddress (operandOf i) (s.past i) = .ok ea ∧
        t = { s.past i with mem := s.mem.write ea r, p := t.p }) ∧
      ∀ g, flagIn t.p g =
        if g = .C then carry else if g = .N then decide (128 ≤ r.toNat)
        else if g = .Z then decide (r.toNat = 0) else flagIn s.p g

/-- ADC in every form. With `P.D = 0`: the sum of accumulator, operand and carry modulo 256; C exactly when the sum
exceeds 255; V exactly when the operands share the sign and the result's differs; N and Z from the result. With
`P.D = 1` it raises (R100, R101). -/
def Obligations.AddWithCarryCompletesInEveryForm : Prop :=
  ∀ (i : Instr) (s : State), mnemonicOf i = .adc →
    (flagIn s.p .D = true → exec i s = .next (s.pastRaising i (.unimplementedSemantics .decimal))) ∧
    (flagIn s.p .D = false → ∃ m t, readOperand (operandOf i) (s.past i) = .ok m ∧ exec i s = .next t ∧
      t = { s.past i with a := t.a, p := t.p } ∧
      t.a.toNat = (s.a.toNat + m.toNat + bitOf (flagIn s.p .C)) % 256 ∧
      ∀ f, flagIn t.p f =
        if f = .C then decide (255 < s.a.toNat + m.toNat + bitOf (flagIn s.p .C))
        else if f = .V then (s.a.msb == m.msb) && (t.a.msb != s.a.msb)
        else if f = .N then decide (128 ≤ t.a.toNat) else if f = .Z then decide (t.a.toNat = 0) else flagIn s.p f)

/-- SBC in every form. With `P.D = 0`: accumulator minus operand minus the borrow modulo 256; C exactly when there is no
borrow; V exactly when the signed difference lies outside -128 to 127; N and Z from the result. With `P.D = 1` it raises
(R102). -/
def Obligations.SubtractWithBorrowCompletesInEveryForm : Prop :=
  ∀ (i : Instr) (s : State), mnemonicOf i = .sbc →
    (flagIn s.p .D = true → exec i s = .next (s.pastRaising i (.unimplementedSemantics .decimal))) ∧
    (flagIn s.p .D = false → ∃ m t, readOperand (operandOf i) (s.past i) = .ok m ∧ exec i s = .next t ∧
      t = { s.past i with a := t.a, p := t.p } ∧
      t.a.toNat = (s.a.toNat + (255 - m.toNat) + bitOf (flagIn s.p .C)) % 256 ∧
      ∀ f, flagIn t.p f =
        if f = .C then decide (m.toNat + (1 - bitOf (flagIn s.p .C)) ≤ s.a.toNat)
        else if f = .V then
          decide (s.a.toInt - m.toInt - (1 - bitOf (flagIn s.p .C)) < -128 ∨
            127 < s.a.toInt - m.toInt - (1 - bitOf (flagIn s.p .C)))
        else if f = .N then decide (128 ≤ t.a.toNat) else if f = .Z then decide (t.a.toNat = 0) else flagIn s.p f)

/-- ADC and SBC with `P.D = 1` raise, read no operand and change nothing but the program counter, the report and DIAG.
`P.D` has no effect on any other instruction: toggling it before or after one that neither stores nor writes the bit is the
same; PLP, CLD and SED, which write it, end the same; PHP pushes it, as a bit of `P`, and ends the same otherwise (R103). -/
def Obligations.DecimalModeRaisesOnlyInAddAndSubtract : Prop :=
  (∀ (i : Instr) (s : State), mnemonicOf i ∈ [.adc, .sbc] → flagIn s.p .D = true →
    exec i s = .next (s.pastRaising i (.unimplementedSemantics .decimal)) ∧ instrAccesses i s = []) ∧
  ∀ (i : Instr) (s t : State), exec i s = .next t →
    (mnemonicOf i ∉ [.adc, .sbc, .php, .plp, .cld, .sed] →
      exec i { s with p := toggledFlag .D s.p } = .next { t with p := toggledFlag .D t.p }) ∧
    (mnemonicOf i ∈ [.plp, .cld, .sed] → exec i { s with p := toggledFlag .D s.p } = .next t) ∧
    (mnemonicOf i = .php →
      exec i { s with p := toggledFlag .D s.p } =
        .next { t with p := toggledFlag .D t.p,
                       mem := s.mem.write (stackAddress s.sp) (toggledFlag .D s.p ||| 0x10) })

/-- CMP, CPX and CPY in every form: Z for equal, C for register at least memory unsigned, N from bit 7 of the 8-bit
difference; V, the register and everything else stay; `P.D` has no effect (R104 to R107). -/
def Obligations.ComparesCompleteInEveryForm : Prop :=
  ∀ (i : Instr) (s : State) (r : Byte),
    ((mnemonicOf i = .cmp ∧ r = s.a) ∨ (mnemonicOf i = .cpx ∧ r = s.x) ∨ (mnemonicOf i = .cpy ∧ r = s.y)) →
    ∃ m t, readOperand (operandOf i) (s.past i) = .ok m ∧ exec i s = .next t ∧ t = { s.past i with p := t.p } ∧
      ∀ f, flagIn t.p f =
        if f = .Z then decide (r.toNat = m.toNat) else if f = .C then decide (m.toNat ≤ r.toNat)
        else if f = .N then decide (128 ≤ (r.toNat + 256 - m.toNat) % 256) else flagIn s.p f

/-- BIT in every form: Z from memory AND accumulator, N and V copied from the operand's bits 7 and 6; nothing else changes
(R108). -/
def Obligations.BitTestCompletesInEveryForm : Prop :=
  ∀ (i : Instr) (s : State), mnemonicOf i = .bit →
    ∃ m t, readOperand (operandOf i) (s.past i) = .ok m ∧ exec i s = .next t ∧ t = { s.past i with p := t.p } ∧
      ∀ f, flagIn t.p f =
        if f = .Z then decide (m &&& s.a = 0) else if f = .N then m.getLsbD 7
        else if f = .V then m.getLsbD 6 else flagIn s.p f

/-- `Push` writes at 0x0100 plus `SP` and then decrements, `Pull` increments and then reads there, both with `SP` modulo
256: the stack never leaves page one (R38, R111, R112). -/
def Obligations.PushAndPullInPageOne : Prop :=
  ∀ (s : State) (b : Byte),
    s.push b = { s with mem := s.mem.write (BitVec.ofNat 16 (0x0100 + s.sp.toNat)) b,
                        sp := BitVec.ofNat 8 ((s.sp.toNat + 255) % 256) } ∧
    s.pulled = s.memRead (BitVec.ofNat 16 (0x0100 + (s.sp.toNat + 1) % 256)) ∧
    s.afterPull = { s with sp := BitVec.ofNat 8 ((s.sp.toNat + 1) % 256) } ∧
    0x0100 ≤ (stackAddress s.sp).toNat ∧ (stackAddress s.sp).toNat ≤ 0x01FF

/-- The laws of the stack (R113): a push and a pull give the byte back and restore `SP`; two pushes and two pulls give the
bytes back in reverse order; across the wrap too. -/
def Obligations.StackRoundTripAndLifo : Prop :=
  ∀ (s : State) (b1 b2 : Byte),
    (s.push b1).pulled = b1 ∧ (s.push b1).afterPull.sp = s.sp ∧
    (s.push b1).afterPull.memRead (stackAddress s.sp) = b1 ∧
    ((s.push b1).push b2).pulled = b2 ∧ ((s.push b1).push b2).afterPull.pulled = b1 ∧
    ((s.push b1).push b2).afterPull.afterPull.sp = s.sp

/-- PHA, PHP, PLA and PLP complete: what is stored where, what is loaded from where, with bit 4 forced in the pushed flag
byte only and all eight bits loaded by PLP (R115 to R118). -/
def Obligations.StackInstructionsComplete : Prop :=
  ∀ s : State,
    exec .pha s = .next { s.past .pha with mem := s.mem.write (stackAddress s.sp) s.a, sp := s.sp - 1 } ∧
    exec .php s = .next { s.past .php with mem := s.mem.write (stackAddress s.sp) (s.p ||| 0x10), sp := s.sp - 1 } ∧
    (∃ v t, v = s.memRead (stackAddress (s.sp + 1)) ∧ exec .pla s = .next t ∧
      t = { s.past .pla with a := v, p := t.p, sp := s.sp + 1 } ∧ NZSet v s.p t.p) ∧
    exec .plp s = .next { s.past .plp with p := s.memRead (stackAddress (s.sp + 1)), sp := s.sp + 1 }

/-- The flag byte on the stack (R114): PHP pushes `P` with bit 4 set and leaves `P`; PLP loads all eight bits pushed; so
the two leave every flag as it was, U set, and `SP` and the other registers as they were. -/
def Obligations.PhpThenPlpRestoresFlags : Prop :=
  ∀ s : State, ∃ t u, exec .php s = .next t ∧ exec .plp t = .next u ∧
    t.p = s.p ∧ t.memRead (stackAddress s.sp) = s.p ||| 0x10 ∧
    (∀ (v : State) (b : Byte), v.sp = t.sp → v.memRead (stackAddress s.sp) = b →
      ∃ w, exec .plp v = .next w ∧ w.p = b) ∧
    u.p = s.p ||| 0x10 ∧ u.sp = s.sp ∧ u.a = s.a ∧ u.x = s.x ∧ u.y = s.y ∧
    ∀ addr, addr ≠ stackAddress s.sp → u.memRead addr = s.memRead addr

/-- JMP, JSR and RTS in every form (R119 to R121). JMP: the program counter becomes the operand word, or the pointer read
with its high byte in the same page. JSR: the address of its own last byte is pushed, high byte first, and control goes to
the operand word. RTS: the low byte and then the high byte are pulled, and control goes to the word they make plus 1.
Nothing else changes but the report, no flag among it. -/
def Obligations.JumpCallAndReturnComplete : Prop :=
  ∀ (op1 op2 : Byte) (s : State),
    exec (.jmpAbs op1 op2) s =
      .next { s.past (.jmpAbs op1 op2) with pc := BitVec.ofNat 16 (op2.toNat * 256 + op1.toNat) } ∧
    exec (.jmpInd op1 op2) s =
      .next { s.past (.jmpInd op1 op2) with
        pc := BitVec.ofNat 16
          ((s.memRead (BitVec.ofNat 16 (op2.toNat * 256 + (op1.toNat + 1) % 256))).toNat * 256 +
            (s.memRead (BitVec.ofNat 16 (op2.toNat * 256 + op1.toNat))).toNat) } ∧
    exec (.jsr op1 op2) s =
      .next { s.past (.jsr op1 op2) with
        mem := (s.mem.write (stackAddress s.sp) (BitVec.ofNat 8 ((s.pc.toNat + 2) % 65536 / 256))).write
          (stackAddress (s.sp - 1)) (BitVec.ofNat 8 ((s.pc.toNat + 2) % 256)),
        sp := s.sp - 2,
        pc := BitVec.ofNat 16 (op2.toNat * 256 + op1.toNat) } ∧
    exec .rts s =
      .next { s.past .rts with
        sp := s.sp + 2,
        pc := BitVec.ofNat 16 ((s.memRead (stackAddress (s.sp + 2))).toNat * 256 +
          (s.memRead (stackAddress (s.sp + 1))).toNat + 1) }

/-- A subroutine that leaves `SP` and the two stack bytes as it found them returns behind its JSR with `SP` restored,
whatever else it did and wherever the stack wraps. -/
def Obligations.ReturnGoesBehindTheCall : Prop :=
  ∀ (op1 op2 : Byte) (s t v : State), exec (.jsr op1 op2) s = .next t →
    v.sp = t.sp → v.memRead (stackAddress s.sp) = t.memRead (stackAddress s.sp) →
    v.memRead (stackAddress (s.sp - 1)) = t.memRead (stackAddress (s.sp - 1)) →
    ∃ u, exec .rts v = .next u ∧ u.pc = s.pc + 3 ∧ u.sp = s.sp

/-- The eight branches: with the condition the program counter goes to the branch's address plus 2 plus the signed offset,
modulo 65536, otherwise to its address plus 2; nothing else changes but the report (R122 to R130). -/
def Obligations.BranchesComplete : Prop :=
  ∀ (op1 : Byte) (s : State) (taken past : Addr),
    taken = BitVec.ofInt 16 (s.pc.toNat + 2 + op1.toInt) → past = BitVec.ofNat 16 (s.pc.toNat + 2) →
    exec (.bpl op1) s = .next { s.past (.bpl op1) with pc := if flagIn s.p .N = false then taken else past } ∧
    exec (.bmi op1) s = .next { s.past (.bmi op1) with pc := if flagIn s.p .N = true then taken else past } ∧
    exec (.bvc op1) s = .next { s.past (.bvc op1) with pc := if flagIn s.p .V = false then taken else past } ∧
    exec (.bvs op1) s = .next { s.past (.bvs op1) with pc := if flagIn s.p .V = true then taken else past } ∧
    exec (.bcc op1) s = .next { s.past (.bcc op1) with pc := if flagIn s.p .C = false then taken else past } ∧
    exec (.bcs op1) s = .next { s.past (.bcs op1) with pc := if flagIn s.p .C = true then taken else past } ∧
    exec (.bne op1) s = .next { s.past (.bne op1) with pc := if flagIn s.p .Z = false then taken else past } ∧
    exec (.beq op1) s = .next { s.past (.beq op1) with pc := if flagIn s.p .Z = true then taken else past }

/-- The seven flag instructions write their one flag and nothing else; NOP changes nothing but the program counter and the
report (R133 to R140). -/
def Obligations.FlagInstructionsAndNopComplete : Prop :=
  ∀ s : State,
    exec .clc s = .next { s.past .clc with p := s.p &&& 0xFE } ∧
    exec .sec s = .next { s.past .sec with p := s.p ||| 0x01 } ∧
    exec .cli s = .next { s.past .cli with p := s.p &&& 0xFB } ∧
    exec .sei s = .next { s.past .sei with p := s.p ||| 0x04 } ∧
    exec .clv s = .next { s.past .clv with p := s.p &&& 0xBF } ∧
    exec .cld s = .next { s.past .cld with p := s.p &&& 0xF7 } ∧
    exec .sed s = .next { s.past .sed with p := s.p ||| 0x08 } ∧
    exec .nop s = .next (s.past .nop)

/-- BRK and RTI raise UnimplementedSemantics: the program counter advances by 1, and nothing else changes but the report
and DIAG; no memory access is made (R141, R142). -/
def Obligations.BrkAndRtiRaise : Prop :=
  ∀ s : State,
    exec .brk s = .next (s.pastRaising .brk (.unimplementedSemantics .brk)) ∧
    exec .rti s = .next (s.pastRaising .rti (.unimplementedSemantics .rti)) ∧
    (s.pastRaising .brk (.unimplementedSemantics .brk)).pc = s.pc + 1 ∧
    (s.pastRaising .rti (.unimplementedSemantics .rti)).pc = s.pc + 1 ∧
    instrAccesses .brk s = [] ∧ instrAccesses .rti s = []

/-- A machine instruction raises exactly when it is ADC or SBC with `P.D = 1`, BRK or RTI, and then always
UnimplementedSemantics with that cause, the program counter advanced and everything else unchanged (R157). -/
def Obligations.OnlyUnimplementedSemanticsAreRaised : Prop :=
  ∀ (i : Instr) (s t : State), exec i s = .next t →
    (t.report = some (.unimplementedSemantics .decimal) ↔ mnemonicOf i ∈ [.adc, .sbc] ∧ flagIn s.p .D = true) ∧
    (t.report = some (.unimplementedSemantics .brk) ↔ mnemonicOf i = .brk) ∧
    (t.report = some (.unimplementedSemantics .rti) ↔ mnemonicOf i = .rti) ∧
    (t.report = none ↔ ¬ (mnemonicOf i ∈ [.adc, .sbc] ∧ flagIn s.p .D = true) ∧ mnemonicOf i ≠ .brk ∧
      mnemonicOf i ≠ .rti) ∧
    ∀ d, t.report = some d → t = s.pastRaising i d

/-- A step that raises a diagnostic, of the byte level or of the record level, is a no-op but for the program counter, the
report and DIAG (R158). -/
def Obligations.RaisingStepIsNoOp : Prop :=
  ∀ (s t : State) (d : Diagnostic), t.report = some d →
    (step s = .next t →
      t = { s with pc := s.pc + BitVec.ofNat 16 (fetchLength s), report := some d,
                   diag := if s.diag = .none then d.code else s.diag }) ∧
    ∀ r : Record, executeRecord r s = .next t →
      t = { s with pc := s.pc + BitVec.ofNat 16 r.length, report := some d,
                   diag := if s.diag = .none then d.code else s.diag }

/-- DIAG keeps the first code that is not 0: a step, of the byte level or of the record level, leaves it as it is unless it
was 0, and then it becomes the code of the step's report; of the host's moves only Reset clears it (R159). -/
def Obligations.DiagIsSticky : Prop :=
  (∀ s t : State, (step s = .next t ∨ ∃ r, executeRecord r s = .next t) →
    (s.diag ≠ .none → t.diag = s.diag) ∧ (s.diag = .none → t.diag = reportCode t.report)) ∧
  ∀ (action : HostAction) (s : State),
    (hostAct action s).diag = if action = .reset then .none else s.diag

/-- Which instructions may change each register; every other leaves it, in every form (R11 to R14, R31). -/
def Obligations.RegisterFrame : Prop :=
  ∀ (i : Instr) (s t : State), exec i s = .next t →
    (mnemonicOf i ∉ [.lda, .and, .ora, .eor, .adc, .sbc, .pla, .txa, .tya] → operandOf i ≠ .acc → t.a = s.a) ∧
    (mnemonicOf i ∉ [.ldx, .tax, .tsx, .inx, .dex] → t.x = s.x) ∧
    (mnemonicOf i ∉ [.ldy, .tay, .iny, .dey] → t.y = s.y) ∧
    (mnemonicOf i ∉ [.pha, .php, .pla, .plp, .jsr, .rts, .txs] → t.sp = s.sp)

/-- Which instructions may change each flag; every other leaves it, in every form: B and U change by PLP alone
(R17 to R24, R31). -/
def Obligations.FlagFrame : Prop :=
  ∀ (i : Instr) (s t : State), exec i s = .next t →
    (mnemonicOf i ∉ [.lda, .ldx, .ldy, .tax, .tay, .txa, .tya, .tsx, .txs, .and, .ora, .eor, .inc, .dec, .inx, .iny,
        .dex, .dey, .asl, .lsr, .rol, .ror, .adc, .sbc, .cmp, .cpx, .cpy, .bit, .pla, .plp] →
      flagIn t.p .N = flagIn s.p .N ∧ flagIn t.p .Z = flagIn s.p .Z) ∧
    (mnemonicOf i ∉ [.adc, .sbc, .bit, .clv, .plp] → flagIn t.p .V = flagIn s.p .V) ∧
    (mnemonicOf i ∉ [.plp] → flagIn t.p .B = flagIn s.p .B ∧ flagIn t.p .U = flagIn s.p .U) ∧
    (mnemonicOf i ∉ [.sed, .cld, .plp] → flagIn t.p .D = flagIn s.p .D) ∧
    (mnemonicOf i ∉ [.sei, .cli, .plp] → flagIn t.p .I = flagIn s.p .I) ∧
    (mnemonicOf i ∉ [.adc, .sbc, .cmp, .cpx, .cpy, .asl, .lsr, .rol, .ror, .sec, .clc, .plp] →
      flagIn t.p .C = flagIn s.p .C)

/-- The instructions that store nothing leave every byte of memory: all but the stores, INC, DEC, the pushes, JSR and the
memory forms of the shifts. -/
def Obligations.NonStoringFormsKeepMemory : Prop :=
  ∀ (i : Instr) (s t : State), exec i s = .next t →
    mnemonicOf i ∉ [.sta, .stx, .sty, .inc, .dec, .pha, .php, .jsr] →
    (mnemonicOf i ∈ [.asl, .lsr, .rol, .ror] → operandOf i = .acc) →
    ∀ addr, t.memRead addr = s.memRead addr

/-- The instructions that store change no byte outside those they store to: the byte at the effective address, or the
stack bytes at the addresses of `SP` before each push. -/
def Obligations.StoringFormsKeepOtherMemory : Prop :=
  ∀ (i : Instr) (s t : State), exec i s = .next t →
    (mnemonicOf i ∈ [.sta, .stx, .sty, .inc, .dec, .asl, .lsr, .rol, .ror] →
      ∀ ea, resolveAddress (operandOf i) (s.past i) = .ok ea → ∀ addr, addr ≠ ea → t.memRead addr = s.memRead addr) ∧
    (mnemonicOf i ∈ [.pha, .php] → ∀ addr, addr ≠ stackAddress s.sp → t.memRead addr = s.memRead addr) ∧
    (mnemonicOf i = .jsr → ∀ addr, addr ≠ stackAddress s.sp → addr ≠ stackAddress (s.sp - 1) →
      t.memRead addr = s.memRead addr)

/-- Two memories in the canonical form (the model's, log entry 2) that read the same everywhere are the same data. -/
def Obligations.CanonicalMemoriesAreEqual : Prop :=
  ∀ m n : Memory, m.wf = true → n.wf = true → (∀ addr, m.read addr = n.read addr) → m = n

/-- The invariant holds at reset, and at power-on over every canonical memory. That nothing is reported there is the model's
choice (log entry 3). -/
def Obligations.InvHoldsAtReset : Prop :=
  State.reset.Inv ∧ ∀ m : Memory, m.wf = true → (State.powerOn m).Inv

/-- Every step from a state that meets the invariant ends in one that does: memory stays canonical, and a reported
diagnostic is kept in DIAG. -/
def Obligations.StepKeepsInv : Prop := ∀ s t : State, s.Inv → step s = .next t → t.Inv

/-- Every history of steps, records and host moves, none of its records refused, keeps the invariant; and as long as its
events are steps and records, DIAG once raised stays as it is. -/
def Obligations.HistoriesKeepInvAndDiag : Prop :=
  ∀ (events : List Event) (s t : State), runEvents events s = .next t →
    (s.Inv → t.Inv) ∧
    ((∀ action, Event.host action ∉ events) → s.diag ≠ .none → t.diag = s.diag)

/-- `Reset()` from any state: A, X, Y and P are 0x00, SP is 0xFD, PC is 0x0000, DIAG is 0, memory is untouched; it is
idempotent (R169). -/
def Obligations.ResetRestoresRegistersOnly : Prop :=
  ∀ s : State,
    (s.applyReset.a = 0x00 ∧ s.applyReset.x = 0x00 ∧ s.applyReset.y = 0x00 ∧ s.applyReset.sp = 0xFD ∧
      s.applyReset.pc = 0x0000 ∧ s.applyReset.p = 0x00 ∧ s.applyReset.diag = .none ∧ s.applyReset.mem = s.mem) ∧
    s.applyReset.applyReset = s.applyReset

/-- The power-on state is the state after Reset over the initial memory, whatever that memory is. That nothing is reported
in it is the model's choice (log entry 3). -/
def Obligations.PowerOnIsResetOverAnyMemory : Prop :=
  ∀ (m : Memory) (s : State), (State.powerOn m).mem = m ∧ ({ s with mem := m } : State).applyReset = State.powerOn m ∧
    ∀ addr, (State.powerOn m).memRead addr = m.read addr

/-- A poke changes the byte at its address and nothing else, and a read of any byte between steps gives the byte last
written (R45). -/
def Obligations.PokeChangesOneByte : Prop :=
  ∀ (s : State) (addr : Addr) (v : Byte),
    hostRead addr (hostAct (.poke addr v) s) = v ∧
    (∀ other, other ≠ addr → hostRead other (hostAct (.poke addr v) s) = hostRead other s) ∧
    hostAct (.poke addr v) s = { s with mem := (hostAct (.poke addr v) s).mem }

/-- The block's interface (R153): reset instead of a step, one step of the chosen front end, and the outputs; with neither
input nothing happens, which is the model's choice (log entry 8). -/
def Obligations.BlockTransactions : Prop :=
  ∀ (front : Config.FrontEnd) (inputs : Inputs) (s : State),
    (inputs.reset = true → transaction front inputs s = .next s.applyReset ∧
      transactionAccesses front inputs s = []) ∧
    (inputs.reset = false → inputs.step = true → front = .bytes → transaction front inputs s = step s) ∧
    (inputs.reset = false → inputs.step = true → front = .record →
      transaction front inputs s = executeRecord inputs.insIn s) ∧
    (inputs.reset = false → inputs.step = false → transaction front inputs s = .next s) ∧
    ((outputs s).obsA = s.a ∧ (outputs s).obsX = s.x ∧ (outputs s).obsY = s.y ∧ (outputs s).obsSP = s.sp ∧
      (outputs s).obsP = s.p ∧ (outputs s).obsPC = s.pc) ∧
    ((outputs s).diag = 0 ↔ s.report = none) ∧
    ((outputs s).diag = 1 ↔ ∃ what, s.report = some (.unknownOpcode what)) ∧
    ((outputs s).diag = 2 ↔ ∃ mode, s.report = some (.invalidAddressForMode mode)) ∧
    ((outputs s).diag = 3 ↔ ∃ which, s.report = some (.unimplementedSemantics which))

/-- Executing an instruction is `Execute` on the record the decoder makes of it: the two front ends agree (R143, R150). -/
def Obligations.ExecIsExecuteOfRecord : Prop :=
  ∀ (i : Instr) (s : State), executeRecord (recordOf i) s = exec i s ∧ (recordOf i).wellFormed = true

/-- A record with an unknown mnemonic and a length 1 to 3 is a no-op but for the program counter, which its length
advances, the report and DIAG (R146). -/
def Obligations.UnknownMnemonicIsReportedNoOp : Prop :=
  ∀ (r : Record) (name : String) (s : State), r.opcode = .unknown name → 1 ≤ r.length → r.length ≤ 3 →
    executeRecord r s = .next { s with pc := s.pc + BitVec.ofNat 16 r.length,
                                       report := some (.unknownOpcode (.mnemonic name)),
                                       diag := if s.diag = .none then .unknownOpcode else s.diag }

/-- Ill-formed records (R148). A record of kind (a), with the operand bytes and the length of a mode that gives its handler
no address or operand, raises InvalidAddressForMode and is a no-op but for the program counter (ADC and SBC with `P.D = 1`
raise for that first); and a record with a known mnemonic is refused exactly when it is neither well formed nor of kind
(a). -/
def Obligations.IllFormedRecords : Prop :=
  ∀ (m : Mnemonic) (r : Record) (s : State), r.opcode = .known m →
    ((r.operandBytesFit = true ∧ r.lengthFits = true ∧
        ((m ∈ [.lda, .ldx, .ldy, .and, .ora, .eor, .adc, .sbc, .cmp, .cpx, .cpy, .bit] ∧ r.mode ∈ [.imp, .rel]) ∨
          (m ∈ [.sta, .stx, .sty, .jmp, .jsr] ∧ r.mode ∈ [.acc, .imm, .imp, .rel]) ∨
          (m ∈ [.asl, .lsr, .rol, .ror, .inc, .dec] ∧ r.mode ∈ [.imm, .imp, .rel]))) →
      ∃ d, executeRecord r s = .next { s with pc := s.pc + BitVec.ofNat 16 r.length, report := some d,
                                              diag := if s.diag = .none then d.code else s.diag } ∧
        d = (if m ∈ [.adc, .sbc] ∧ flagIn s.p .D = true then .unimplementedSemantics .decimal
             else .invalidAddressForMode r.mode)) ∧
    (executeRecord r s = .refused .illFormedRecord ↔
      ¬ (r.operandBytesFit = true ∧ r.lengthFits = true ∧
        (admitted m r.mode = true ∨
          (m ∈ [.lda, .ldx, .ldy, .and, .ora, .eor, .adc, .sbc, .cmp, .cpx, .cpy, .bit] ∧ r.mode ∈ [.imp, .rel]) ∨
          (m ∈ [.sta, .stx, .sty, .jmp, .jsr] ∧ r.mode ∈ [.acc, .imm, .imp, .rel]) ∨
          (m ∈ [.asl, .lsr, .rol, .ror, .inc, .dec] ∧ r.mode ∈ [.imm, .imp, .rel]))))

/-- The fetch reads exactly the bytes of the instruction it decodes, in ascending address order, wrapping at the top of
memory; of an illegal opcode byte it reads that byte alone (R150, R151). -/
def Obligations.FetchReadsExactlyTheInstruction : Prop :=
  ∀ s : State,
    (∀ i, fetchInstr s = .ok i →
      (fetchAccesses s).map (fun acc => acc.data) = encode i ∧
      ∀ k acc, (fetchAccesses s)[k]? = some acc → acc.we = false ∧ acc.addr.toNat = (s.pc.toNat + k) % 65536) ∧
    ∀ opcode, fetchInstr s = .error opcode → fetchAccesses s = [readAccess s s.pc]

/-- The memory after an instruction is the memory before it with the writes of its transaction list replayed in order. Which
writes the list holds is `TransactionsOfEachInstruction`. -/
def Obligations.BusWritesAreTheMemoryChange : Prop :=
  ∀ (i : Instr) (s t : State), exec i s = .next t → t.mem = replayWrites (instrAccesses i s) s.mem

/-- An instruction depends on memory only through the reads of its transaction list: over any other memory that agrees at
the addresses it reads, it makes the same transactions and leaves the same registers, flags and report, and its writes
land in that other memory (R46). -/
def Obligations.OnlyListedReadsMatter : Prop :=
  ∀ (i : Instr) (s t : State) (m : Memory), exec i s = .next t →
    (∀ acc ∈ instrAccesses i s, acc.we = false → m.read acc.addr = acc.data) →
    instrAccesses i { s with mem := m } = instrAccesses i s ∧
    exec i { s with mem := m } = .next { t with mem := replayWrites (instrAccesses i s) m }

/-- The memory transactions of each instruction, address and direction, exactly these and in this order (log entry 10): the
pointer reads of its mode, low byte first, then the accesses of its pseudocode; no dummy read and no dummy write. A read
gives the byte of memory, and the record level makes the same transactions, so it reads no instruction byte. -/
def Obligations.TransactionsOfEachInstruction : Prop :=
  (∀ (s : State) (op1 op2 : Byte),
    placesOf (pointerReads (.ind op1 op2) s) =
      [(BitVec.ofNat 16 (op2.toNat * 256 + op1.toNat), false),
       (BitVec.ofNat 16 (op2.toNat * 256 + (op1.toNat + 1) % 256), false)] ∧
    placesOf (pointerReads (.izx op1) s) =
      [(BitVec.ofNat 16 ((op1.toNat + s.x.toNat) % 256), false),
       (BitVec.ofNat 16 ((op1.toNat + s.x.toNat + 1) % 256), false)] ∧
    placesOf (pointerReads (.izy op1) s) =
      [(BitVec.ofNat 16 op1.toNat, false), (BitVec.ofNat 16 ((op1.toNat + 1) % 256), false)] ∧
    ∀ o : Operand, o.mode ∉ [.ind, .izx, .izy] → pointerReads o s = []) ∧
  ∀ (i : Instr) (s : State) (pointers : List (Addr × Bool)), pointers = placesOf (pointerReads (operandOf i) s) →
    (∀ acc ∈ instrAccesses i s, acc.we = false → acc.data = s.memRead acc.addr) ∧
    recordAccesses (recordOf i) s = instrAccesses i s ∧
    (mnemonicOf i ∈ [.adc, .sbc] → flagIn s.p .D = true → instrAccesses i s = []) ∧
    (mnemonicOf i ∈ [.lda, .ldx, .ldy, .and, .ora, .eor, .adc, .sbc, .cmp, .cpx, .cpy, .bit] →
      (mnemonicOf i ∈ [.adc, .sbc] → flagIn s.p .D = false) →
      ((operandOf i).mode = .imm → instrAccesses i s = []) ∧
      ((operandOf i).mode ≠ .imm → ∃ ea, resolveAddress (operandOf i) (s.past i) = .ok ea ∧
        placesOf (instrAccesses i s) = pointers ++ [(ea, false)])) ∧
    (mnemonicOf i ∈ [.sta, .stx, .sty] → ∃ ea, resolveAddress (operandOf i) (s.past i) = .ok ea ∧
      placesOf (instrAccesses i s) = pointers ++ [(ea, true)]) ∧
    (mnemonicOf i ∈ [.inc, .dec, .asl, .lsr, .rol, .ror] →
      ((operandOf i).mode = .acc → instrAccesses i s = []) ∧
      ((operandOf i).mode ≠ .acc → ∃ ea, resolveAddress (operandOf i) (s.past i) = .ok ea ∧
        placesOf (instrAccesses i s) = pointers ++ [(ea, false), (ea, true)])) ∧
    (mnemonicOf i = .jmp → placesOf (instrAccesses i s) = pointers) ∧
    (mnemonicOf i = .jsr →
      placesOf (instrAccesses i s) = [(stackAddress s.sp, true), (stackAddress (s.sp - 1), true)]) ∧
    (mnemonicOf i = .rts →
      placesOf (instrAccesses i s) = [(stackAddress (s.sp + 1), false), (stackAddress (s.sp + 2), false)]) ∧
    (mnemonicOf i ∈ [.pha, .php] → placesOf (instrAccesses i s) = [(stackAddress s.sp, true)]) ∧
    (mnemonicOf i ∈ [.pla, .plp] → placesOf (instrAccesses i s) = [(stackAddress (s.sp + 1), false)]) ∧
    (mnemonicOf i ∈ [.tax, .tay, .txa, .tya, .tsx, .txs, .inx, .iny, .dex, .dey, .bpl, .bmi, .bvc, .bvs, .bcc, .bcs, .bne,
        .beq, .clc, .sec, .cli, .sei, .clv, .cld, .sed, .nop, .brk, .rti] → instrAccesses i s = [])
end

