-- ==== Sys2Proof/Laws/Decode.lean ====
section
/-! SUPPORT. The decoder's table and the encoder agree, cell by cell. -/

namespace Sys2Proof

/-- An operand form carries as many bytes as its mode needs. -/
theorem length_bytes (o : Operand) : o.bytes.length = o.mode.operandBytes := by cases o <;> rfl

/-- The matrix's cell of an instruction's opcode byte: its mnemonic, its mode, and the instruction built from its operand
bytes, whatever bytes come after them. -/
theorem cell_of_opcodeOf (i : Instr) (rest : List Byte) :
    (rowOf (opcodeOf i)).map (fun row => (row.mnemonic, row.mode,
      row.build (((operandOf i).bytes ++ rest).getD 0 0) (((operandOf i).bytes ++ rest).getD 1 0))) =
    some (mnemonicOf i, (operandOf i).mode, i) := by
  cases i <;> (simp only [opcodeOf]; rfl)

/-- The matrix holds each instruction's opcode byte, with its mnemonic and mode, and builds it from its operand bytes. -/
theorem rowOf_opcodeOf (i : Instr) (rest : List Byte) :
    ∃ row, rowOf (opcodeOf i) = some row ∧ row.mnemonic = mnemonicOf i ∧ row.mode = (operandOf i).mode ∧
      row.build (((operandOf i).bytes ++ rest).getD 0 0) (((operandOf i).bytes ++ rest).getD 1 0) = i := by
  have h := cell_of_opcodeOf i rest
  rw [Option.map_eq_some_iff] at h
  obtain ⟨row, hrow, he⟩ := h
  simp only [Prod.mk.injEq] at he
  exact ⟨row, hrow, he.1, he.2.1, he.2.2⟩

/-- A row found for an opcode byte is a cell of the matrix with that byte. -/
theorem rowOf_mem {opcode : Byte} {row : OpcodeRow} (h : rowOf opcode = some row) :
    row ∈ matrixRow (opcode.toNat / 16) ∧ row.opcode = opcode :=
  ⟨List.mem_of_find?_eq_some h, by simpa using List.find?_some h⟩

end Sys2Proof
end

