-- ==== Sys2Proof/Laws/State.lean ====
section
/-! SUPPORT. What each named operation leaves in each field of the state, one lemma per field, so that no later proof
unfolds a record update. -/

namespace Sys2Proof.Machine

variable (s : State)

@[simp] theorem State.setA_a (v : Byte) : (s.setA v).a = v := rfl
@[simp] theorem State.setA_x (v : Byte) : (s.setA v).x = s.x := rfl
@[simp] theorem State.setA_y (v : Byte) : (s.setA v).y = s.y := rfl
@[simp] theorem State.setA_sp (v : Byte) : (s.setA v).sp = s.sp := rfl
@[simp] theorem State.setA_pc (v : Byte) : (s.setA v).pc = s.pc := rfl
@[simp] theorem State.setA_p (v : Byte) : (s.setA v).p = s.p := rfl
@[simp] theorem State.setA_mem (v : Byte) : (s.setA v).mem = s.mem := rfl
@[simp] theorem State.setA_diag (v : Byte) : (s.setA v).diag = s.diag := rfl
@[simp] theorem State.setA_report (v : Byte) : (s.setA v).report = s.report := rfl

@[simp] theorem State.setX_a (v : Byte) : (s.setX v).a = s.a := rfl
@[simp] theorem State.setX_x (v : Byte) : (s.setX v).x = v := rfl
@[simp] theorem State.setX_y (v : Byte) : (s.setX v).y = s.y := rfl
@[simp] theorem State.setX_sp (v : Byte) : (s.setX v).sp = s.sp := rfl
@[simp] theorem State.setX_pc (v : Byte) : (s.setX v).pc = s.pc := rfl
@[simp] theorem State.setX_p (v : Byte) : (s.setX v).p = s.p := rfl
@[simp] theorem State.setX_mem (v : Byte) : (s.setX v).mem = s.mem := rfl
@[simp] theorem State.setX_diag (v : Byte) : (s.setX v).diag = s.diag := rfl
@[simp] theorem State.setX_report (v : Byte) : (s.setX v).report = s.report := rfl

@[simp] theorem State.setY_a (v : Byte) : (s.setY v).a = s.a := rfl
@[simp] theorem State.setY_x (v : Byte) : (s.setY v).x = s.x := rfl
@[simp] theorem State.setY_y (v : Byte) : (s.setY v).y = v := rfl
@[simp] theorem State.setY_sp (v : Byte) : (s.setY v).sp = s.sp := rfl
@[simp] theorem State.setY_pc (v : Byte) : (s.setY v).pc = s.pc := rfl
@[simp] theorem State.setY_p (v : Byte) : (s.setY v).p = s.p := rfl
@[simp] theorem State.setY_mem (v : Byte) : (s.setY v).mem = s.mem := rfl
@[simp] theorem State.setY_diag (v : Byte) : (s.setY v).diag = s.diag := rfl
@[simp] theorem State.setY_report (v : Byte) : (s.setY v).report = s.report := rfl

@[simp] theorem State.setSP_a (v : Byte) : (s.setSP v).a = s.a := rfl
@[simp] theorem State.setSP_x (v : Byte) : (s.setSP v).x = s.x := rfl
@[simp] theorem State.setSP_y (v : Byte) : (s.setSP v).y = s.y := rfl
@[simp] theorem State.setSP_sp (v : Byte) : (s.setSP v).sp = v := rfl
@[simp] theorem State.setSP_pc (v : Byte) : (s.setSP v).pc = s.pc := rfl
@[simp] theorem State.setSP_p (v : Byte) : (s.setSP v).p = s.p := rfl
@[simp] theorem State.setSP_mem (v : Byte) : (s.setSP v).mem = s.mem := rfl
@[simp] theorem State.setSP_diag (v : Byte) : (s.setSP v).diag = s.diag := rfl
@[simp] theorem State.setSP_report (v : Byte) : (s.setSP v).report = s.report := rfl

@[simp] theorem State.setPC_a (v : Addr) : (s.setPC v).a = s.a := rfl
@[simp] theorem State.setPC_x (v : Addr) : (s.setPC v).x = s.x := rfl
@[simp] theorem State.setPC_y (v : Addr) : (s.setPC v).y = s.y := rfl
@[simp] theorem State.setPC_sp (v : Addr) : (s.setPC v).sp = s.sp := rfl
@[simp] theorem State.setPC_pc (v : Addr) : (s.setPC v).pc = v := rfl
@[simp] theorem State.setPC_p (v : Addr) : (s.setPC v).p = s.p := rfl
@[simp] theorem State.setPC_mem (v : Addr) : (s.setPC v).mem = s.mem := rfl
@[simp] theorem State.setPC_diag (v : Addr) : (s.setPC v).diag = s.diag := rfl
@[simp] theorem State.setPC_report (v : Addr) : (s.setPC v).report = s.report := rfl

@[simp] theorem State.setP_a (v : Byte) : (s.setP v).a = s.a := rfl
@[simp] theorem State.setP_x (v : Byte) : (s.setP v).x = s.x := rfl
@[simp] theorem State.setP_y (v : Byte) : (s.setP v).y = s.y := rfl
@[simp] theorem State.setP_sp (v : Byte) : (s.setP v).sp = s.sp := rfl
@[simp] theorem State.setP_pc (v : Byte) : (s.setP v).pc = s.pc := rfl
@[simp] theorem State.setP_p (v : Byte) : (s.setP v).p = v := rfl
@[simp] theorem State.setP_mem (v : Byte) : (s.setP v).mem = s.mem := rfl
@[simp] theorem State.setP_diag (v : Byte) : (s.setP v).diag = s.diag := rfl
@[simp] theorem State.setP_report (v : Byte) : (s.setP v).report = s.report := rfl

@[simp] theorem State.memWrite_a (addr : Addr) (v : Byte) : (s.memWrite addr v).a = s.a := rfl
@[simp] theorem State.memWrite_x (addr : Addr) (v : Byte) : (s.memWrite addr v).x = s.x := rfl
@[simp] theorem State.memWrite_y (addr : Addr) (v : Byte) : (s.memWrite addr v).y = s.y := rfl
@[simp] theorem State.memWrite_sp (addr : Addr) (v : Byte) : (s.memWrite addr v).sp = s.sp := rfl
@[simp] theorem State.memWrite_pc (addr : Addr) (v : Byte) : (s.memWrite addr v).pc = s.pc := rfl
@[simp] theorem State.memWrite_p (addr : Addr) (v : Byte) : (s.memWrite addr v).p = s.p := rfl
@[simp] theorem State.memWrite_mem (addr : Addr) (v : Byte) : (s.memWrite addr v).mem = s.mem.write addr v := rfl
@[simp] theorem State.memWrite_diag (addr : Addr) (v : Byte) : (s.memWrite addr v).diag = s.diag := rfl
@[simp] theorem State.memWrite_report (addr : Addr) (v : Byte) : (s.memWrite addr v).report = s.report := rfl

@[simp] theorem State.setFlag_a (f : Flag) (v : Bool) : (s.setFlag f v).a = s.a := rfl
@[simp] theorem State.setFlag_x (f : Flag) (v : Bool) : (s.setFlag f v).x = s.x := rfl
@[simp] theorem State.setFlag_y (f : Flag) (v : Bool) : (s.setFlag f v).y = s.y := rfl
@[simp] theorem State.setFlag_sp (f : Flag) (v : Bool) : (s.setFlag f v).sp = s.sp := rfl
@[simp] theorem State.setFlag_pc (f : Flag) (v : Bool) : (s.setFlag f v).pc = s.pc := rfl
@[simp] theorem State.setFlag_p (f : Flag) (v : Bool) : (s.setFlag f v).p = withFlag f v s.p := rfl
@[simp] theorem State.setFlag_mem (f : Flag) (v : Bool) : (s.setFlag f v).mem = s.mem := rfl
@[simp] theorem State.setFlag_diag (f : Flag) (v : Bool) : (s.setFlag f v).diag = s.diag := rfl
@[simp] theorem State.setFlag_report (f : Flag) (v : Bool) : (s.setFlag f v).report = s.report := rfl

@[simp] theorem State.beginStep_a (n : Nat) : (s.beginStep n).a = s.a := rfl
@[simp] theorem State.beginStep_x (n : Nat) : (s.beginStep n).x = s.x := rfl
@[simp] theorem State.beginStep_y (n : Nat) : (s.beginStep n).y = s.y := rfl
@[simp] theorem State.beginStep_sp (n : Nat) : (s.beginStep n).sp = s.sp := rfl
@[simp] theorem State.beginStep_pc (n : Nat) : (s.beginStep n).pc = s.pc + BitVec.ofNat 16 n := rfl
@[simp] theorem State.beginStep_p (n : Nat) : (s.beginStep n).p = s.p := rfl
@[simp] theorem State.beginStep_mem (n : Nat) : (s.beginStep n).mem = s.mem := rfl
@[simp] theorem State.beginStep_diag (n : Nat) : (s.beginStep n).diag = s.diag := rfl
@[simp] theorem State.beginStep_report (n : Nat) : (s.beginStep n).report = none := rfl

@[simp] theorem State.raise_a (d : Diagnostic) : (s.raise d).a = s.a := rfl
@[simp] theorem State.raise_x (d : Diagnostic) : (s.raise d).x = s.x := rfl
@[simp] theorem State.raise_y (d : Diagnostic) : (s.raise d).y = s.y := rfl
@[simp] theorem State.raise_sp (d : Diagnostic) : (s.raise d).sp = s.sp := rfl
@[simp] theorem State.raise_pc (d : Diagnostic) : (s.raise d).pc = s.pc := rfl
@[simp] theorem State.raise_p (d : Diagnostic) : (s.raise d).p = s.p := rfl
@[simp] theorem State.raise_mem (d : Diagnostic) : (s.raise d).mem = s.mem := rfl
@[simp] theorem State.raise_diag (d : Diagnostic) : (s.raise d).diag = stickyDiag s.diag d.code := rfl
@[simp] theorem State.raise_report (d : Diagnostic) : (s.raise d).report = some d := rfl

@[simp] theorem State.push_a (b : Byte) : (s.push b).a = s.a := rfl
@[simp] theorem State.push_x (b : Byte) : (s.push b).x = s.x := rfl
@[simp] theorem State.push_y (b : Byte) : (s.push b).y = s.y := rfl
@[simp] theorem State.push_sp (b : Byte) : (s.push b).sp = s.sp - 1 := rfl
@[simp] theorem State.push_pc (b : Byte) : (s.push b).pc = s.pc := rfl
@[simp] theorem State.push_p (b : Byte) : (s.push b).p = s.p := rfl
@[simp] theorem State.push_mem (b : Byte) : (s.push b).mem = s.mem.write (stackAddress s.sp) b := rfl
@[simp] theorem State.push_diag (b : Byte) : (s.push b).diag = s.diag := rfl
@[simp] theorem State.push_report (b : Byte) : (s.push b).report = s.report := rfl

@[simp] theorem State.afterPull_a : (s.afterPull).a = s.a := rfl
@[simp] theorem State.afterPull_x : (s.afterPull).x = s.x := rfl
@[simp] theorem State.afterPull_y : (s.afterPull).y = s.y := rfl
@[simp] theorem State.afterPull_sp : (s.afterPull).sp = s.sp + 1 := rfl
@[simp] theorem State.afterPull_pc : (s.afterPull).pc = s.pc := rfl
@[simp] theorem State.afterPull_p : (s.afterPull).p = s.p := rfl
@[simp] theorem State.afterPull_mem : (s.afterPull).mem = s.mem := rfl
@[simp] theorem State.afterPull_diag : (s.afterPull).diag = s.diag := rfl
@[simp] theorem State.afterPull_report : (s.afterPull).report = s.report := rfl

@[simp] theorem State.resetTo_a (v : Addr) : (s.resetTo v).a = 0x00 := rfl
@[simp] theorem State.resetTo_x (v : Addr) : (s.resetTo v).x = 0x00 := rfl
@[simp] theorem State.resetTo_y (v : Addr) : (s.resetTo v).y = 0x00 := rfl
@[simp] theorem State.resetTo_sp (v : Addr) : (s.resetTo v).sp = 0xFD := rfl
@[simp] theorem State.resetTo_pc (v : Addr) : (s.resetTo v).pc = v := rfl
@[simp] theorem State.resetTo_p (v : Addr) : (s.resetTo v).p = 0x00 := rfl
@[simp] theorem State.resetTo_mem (v : Addr) : (s.resetTo v).mem = s.mem := rfl
@[simp] theorem State.resetTo_diag (v : Addr) : (s.resetTo v).diag = .none := rfl
@[simp] theorem State.resetTo_report (v : Addr) : (s.resetTo v).report = none := rfl

@[simp] theorem State.applyReset_a : (s.applyReset).a = 0x00 := rfl
@[simp] theorem State.applyReset_x : (s.applyReset).x = 0x00 := rfl
@[simp] theorem State.applyReset_y : (s.applyReset).y = 0x00 := rfl
@[simp] theorem State.applyReset_sp : (s.applyReset).sp = 0xFD := rfl
@[simp] theorem State.applyReset_pc : (s.applyReset).pc = Config.resetPc := rfl
@[simp] theorem State.applyReset_p : (s.applyReset).p = 0x00 := rfl
@[simp] theorem State.applyReset_mem : (s.applyReset).mem = s.mem := rfl
@[simp] theorem State.applyReset_diag : (s.applyReset).diag = .none := rfl
@[simp] theorem State.applyReset_report : (s.applyReset).report = none := rfl

@[simp] theorem State.memRead_def (addr : Addr) : s.memRead addr = s.mem.read addr := rfl
@[simp] theorem State.pulled_def : s.pulled = s.mem.read (stackAddress (s.sp + 1)) := rfl
@[simp] theorem State.flag_def (f : Flag) : s.flag f = flagIn s.p f := rfl

end Sys2Proof.Machine
end

