-- ==== Sys2Proof/Laws/Flags.lean ====
section
/-! SUPPORT. What the flag computations do to the state: the flag byte each one leaves, one lemma a field. -/

namespace Sys2Proof.Machine

/-- Writing one flag of a byte changes that flag only. -/
@[simp] theorem flagIn_withFlag (f g : Flag) (v : Bool) (p : Byte) :
    flagIn (withFlag f v p) g = if g = f then v else flagIn p g := by
  cases f <;> cases g <;> cases v <;> simp [flagIn, withFlag, Flag.mask, Flag.bit]

/-- Two flag bytes with the same eight flags are the same byte. -/
theorem flagByte_ext {p q : Byte} (h : ∀ f, flagIn p f = flagIn q f) : p = q := by
  apply BitVec.eq_of_getLsbD_eq
  intro k hk
  have : k = 0 ∨ k = 1 ∨ k = 2 ∨ k = 3 ∨ k = 4 ∨ k = 5 ∨ k = 6 ∨ k = 7 := by omega
  rcases this with rfl | rfl | rfl | rfl | rfl | rfl | rfl | rfl
  · exact h .C
  · exact h .Z
  · exact h .I
  · exact h .D
  · exact h .U
  · exact h .B
  · exact h .V
  · exact h .N

/-- The flag byte that `UpdateNZ(b)` leaves. -/
def nzByte (b p : Byte) : Byte := withFlag .N b.msb (withFlag .Z (b == 0) p)

variable (s : State) (b m r a : Byte)

@[simp] theorem State.updateNZ_a : (s.updateNZ b).a = s.a := rfl
@[simp] theorem State.updateNZ_x : (s.updateNZ b).x = s.x := rfl
@[simp] theorem State.updateNZ_y : (s.updateNZ b).y = s.y := rfl
@[simp] theorem State.updateNZ_sp : (s.updateNZ b).sp = s.sp := rfl
@[simp] theorem State.updateNZ_pc : (s.updateNZ b).pc = s.pc := rfl
@[simp] theorem State.updateNZ_mem : (s.updateNZ b).mem = s.mem := rfl
@[simp] theorem State.updateNZ_diag : (s.updateNZ b).diag = s.diag := rfl
@[simp] theorem State.updateNZ_report : (s.updateNZ b).report = s.report := rfl

@[simp] theorem State.addWithCarry_a : (s.addWithCarry a m).a = addResult a m (s.flag .C) := rfl
@[simp] theorem State.addWithCarry_x : (s.addWithCarry a m).x = s.x := rfl
@[simp] theorem State.addWithCarry_y : (s.addWithCarry a m).y = s.y := rfl
@[simp] theorem State.addWithCarry_sp : (s.addWithCarry a m).sp = s.sp := rfl
@[simp] theorem State.addWithCarry_pc : (s.addWithCarry a m).pc = s.pc := rfl
@[simp] theorem State.addWithCarry_mem : (s.addWithCarry a m).mem = s.mem := rfl
@[simp] theorem State.addWithCarry_diag : (s.addWithCarry a m).diag = s.diag := rfl
@[simp] theorem State.addWithCarry_report : (s.addWithCarry a m).report = s.report := rfl

@[simp] theorem State.compare_a : (s.compare r m).a = s.a := rfl
@[simp] theorem State.compare_x : (s.compare r m).x = s.x := rfl
@[simp] theorem State.compare_y : (s.compare r m).y = s.y := rfl
@[simp] theorem State.compare_sp : (s.compare r m).sp = s.sp := rfl
@[simp] theorem State.compare_pc : (s.compare r m).pc = s.pc := rfl
@[simp] theorem State.compare_mem : (s.compare r m).mem = s.mem := rfl
@[simp] theorem State.compare_diag : (s.compare r m).diag = s.diag := rfl
@[simp] theorem State.compare_report : (s.compare r m).report = s.report := rfl

@[simp] theorem State.bitTest_a : (s.bitTest m).a = s.a := rfl
@[simp] theorem State.bitTest_x : (s.bitTest m).x = s.x := rfl
@[simp] theorem State.bitTest_y : (s.bitTest m).y = s.y := rfl
@[simp] theorem State.bitTest_sp : (s.bitTest m).sp = s.sp := rfl
@[simp] theorem State.bitTest_pc : (s.bitTest m).pc = s.pc := rfl
@[simp] theorem State.bitTest_mem : (s.bitTest m).mem = s.mem := rfl
@[simp] theorem State.bitTest_diag : (s.bitTest m).diag = s.diag := rfl
@[simp] theorem State.bitTest_report : (s.bitTest m).report = s.report := rfl

@[simp] theorem State.updateNZ_p : (s.updateNZ b).p = nzByte b s.p := rfl
theorem State.addWithCarry_p : (s.addWithCarry a m).p = nzByte (addResult a m (s.flag .C))
    (withFlag .V (addOverflow a m (s.flag .C)) (withFlag .C (addCarry a m (s.flag .C)) s.p)) := rfl
theorem State.compare_p : (s.compare r m).p =
    withFlag .N (r - m).msb (withFlag .C (decide (m.toNat ≤ r.toNat)) (withFlag .Z (r == m) s.p)) := rfl
theorem State.bitTest_p : (s.bitTest m).p =
    withFlag .V (m.getLsbD 6) (withFlag .N (m.getLsbD 7) (withFlag .Z ((m &&& s.a) == 0) s.p)) := rfl

/-- The flags of `UpdateNZ`: N and Z from the byte, the other six as they were. -/
@[simp] theorem flagIn_nzByte (p : Byte) (f : Flag) :
    flagIn (nzByte b p) f = if f = .N then b.msb else if f = .Z then b == 0 else flagIn p f := by
  simp [nzByte]

end Sys2Proof.Machine
end

