-- ==== Sys2Proof/Laws/Operands.lean ====
section
/-! SUPPORT. What address resolution and operand fetch depend on, and where they raise. -/

namespace Sys2Proof.Machine

/-- Resolving an address looks at `X`, `Y` and memory only. -/
theorem resolveAddress_congr (o : Operand) {s t : State} (hx : s.x = t.x) (hy : s.y = t.y) (hm : s.mem = t.mem) :
    resolveAddress o s = resolveAddress o t := by
  cases o <;> simp [resolveAddress, zeroPagePointer, samePagePointer, hx, hy, hm]

/-- Fetching an operand looks at `A`, `X`, `Y` and memory only. -/
theorem readOperand_congr (o : Operand) {s t : State} (ha : s.a = t.a) (hx : s.x = t.x) (hy : s.y = t.y)
    (hm : s.mem = t.mem) : readOperand o s = readOperand o t := by
  have h := resolveAddress_congr o hx hy hm
  cases o <;> simp [readOperand, ha, h] <;> (congr 1; funext; simp [hm])

@[simp] theorem resolveAddress_beginStep (o : Operand) (n : Nat) (s : State) :
    resolveAddress o (s.beginStep n) = resolveAddress o s := resolveAddress_congr o rfl rfl rfl

@[simp] theorem readOperand_beginStep (o : Operand) (n : Nat) (s : State) :
    readOperand o (s.beginStep n) = readOperand o s := readOperand_congr o rfl rfl rfl rfl

/-- The modes that have an effective address. -/
def addressed (mode : Mode) : Bool :=
  mode != .imp && mode != .acc && mode != .imm && mode != .rel

/-- A mode with an address resolves. -/
theorem resolveAddress_ok (o : Operand) (s : State) (h : addressed o.mode = true) :
    ∃ ea, resolveAddress o s = .ok ea := by
  cases o <;> first | exact ⟨_, rfl⟩ | exact absurd h (by simp [addressed, Operand.mode])

/-- A mode without an address raises, and names the mode. -/
theorem resolveAddress_error (o : Operand) (s : State) (h : addressed o.mode = false) :
    resolveAddress o s = .error (.invalidAddressForMode o.mode) := by
  cases o <;> first | rfl | exact absurd h (by simp [addressed, Operand.mode])

/-- An operand is read in every mode but IMP and REL. -/
theorem readOperand_ok (o : Operand) (s : State) (hi : o.mode ≠ .imp) (hr : o.mode ≠ .rel) :
    ∃ v, readOperand o s = .ok v := by
  cases o <;> first | exact ⟨_, rfl⟩ | exact absurd rfl hi | exact absurd rfl hr

/-- For a mode with an address, the operand is the byte at the effective address. -/
theorem readOperand_of_address (o : Operand) (s : State) {ea : Addr} (h : resolveAddress o s = .ok ea) :
    readOperand o s = .ok (s.mem.read ea) := by
  cases o <;> first | (simp only [readOperand, h]; rfl) | exact nomatch h

end Sys2Proof.Machine
end

