-- ==== Sys2Proof/Laws/Steps.lean ====
section
/-! SUPPORT. What one step can do, said once: a step's two endings, the handler of each instruction, and what each shared
shape of handler answers. -/

namespace Sys2Proof.Machine

/-- A handler that completes ends the step in its state. -/
theorem runHandler_ok {n : Nat} {h : State → Except Diagnostic State} {s t : State}
    (hok : h (s.beginStep n) = .ok t) : runHandler n h s = .next t := by
  simp [runHandler, hok]

/-- A handler that raises ends the step in the advanced state with the diagnostic. -/
theorem runHandler_error {n : Nat} {h : State → Except Diagnostic State} {s : State} {d : Diagnostic}
    (herr : h (s.beginStep n) = .error d) : runHandler n h s = .next ((s.beginStep n).raise d) := by
  simp [runHandler, herr]

/-- The two endings of a step, and no other. -/
theorem runHandler_cases {n : Nat} {h : State → Except Diagnostic State} {s t : State}
    (hn : runHandler n h s = .next t) :
    h (s.beginStep n) = .ok t ∨ ∃ d, h (s.beginStep n) = .error d ∧ t = (s.beginStep n).raise d := by
  unfold runHandler at hn
  split at hn
  · next u hu => exact .inl (by rw [hu]; cases hn; rfl)
  · next d hd => exact .inr ⟨d, hd, by cases hn; rfl⟩

/-- The step of a machine instruction is the step of its mnemonic's handler on its operand form. -/
theorem exec_eq_executeWith (i : Instr) (s : State) :
    exec i s = executeWith (operandOf i) (handlerOf (mnemonicOf i)) s := by
  cases i <;> rfl

/-- The same, with the frame of the step unfolded. -/
theorem exec_eq_runHandler (i : Instr) (s : State) :
    exec i s = runHandler (lengthOf i) (handlerOf (mnemonicOf i) (operandOf i)) s :=
  exec_eq_executeWith i s

/-- A handler over an operand completes exactly where the operand is read. -/
theorem withOperand_ok {o : Operand} {k : Byte → State → State} {s : State} {v : Byte}
    (h : readOperand o s = .ok v) : withOperand o k s = .ok (k v s) := by
  simp [withOperand, h, Except.map]

theorem withOperand_error {o : Operand} {k : Byte → State → State} {s : State} {d : Diagnostic}
    (h : readOperand o s = .error d) : withOperand o k s = .error d := by
  simp [withOperand, h, Except.map]

/-- A store writes the byte at the effective address and changes nothing else. -/
theorem storeByte_ok {o : Operand} {v : Byte} {s : State} {ea : Addr} (h : resolveAddress o s = .ok ea) :
    storeByte v o s = .ok (s.memWrite ea v) := by
  simp [storeByte, h, Except.map]

theorem modifyMemory_ok {f : Byte → Byte} {o : Operand} {s : State} {ea : Addr} (h : resolveAddress o s = .ok ea) :
    modifyMemory f o s = .ok ((s.memWrite ea (f (s.mem.read ea))).updateNZ (f (s.mem.read ea))) := by
  simp [modifyMemory, h, Except.map]

theorem shiftWith_acc (f : Byte → Bool → Byte × Bool) (s : State) :
    shiftWith f .acc s =
      .ok (((s.setFlag .C (f s.a (s.flag .C)).2).setA (f s.a (s.flag .C)).1).updateNZ (f s.a (s.flag .C)).1) := rfl

theorem shiftWith_ok {f : Byte → Bool → Byte × Bool} {o : Operand} {s : State} {ea : Addr}
    (h : resolveAddress o s = .ok ea) :
    shiftWith f o s = .ok (((s.setFlag .C (f (s.mem.read ea) (s.flag .C)).2).memWrite ea
      (f (s.mem.read ea) (s.flag .C)).1).updateNZ (f (s.mem.read ea) (s.flag .C)).1) := by
  cases o <;> first | (simp only [shiftWith, h]; rfl) | exact nomatch h

theorem branch_rel (c : Bool) (op1 : Byte) (s : State) :
    branch c (.rel op1) s = .ok (if c then s.setPC (s.pc + sext16 op1) else s) := rfl

/-- The state that JSR's two pushes leave. -/
theorem pushReturnAddress_eq (s : State) :
    s.pushReturnAddress = (s.push (hiByte (s.pc - 1))).push (loByte (s.pc - 1)) := rfl

/-- A step of the byte level is `Execute` on the fetched instruction, or the no-op of an illegal byte. -/
theorem step_eq_exec {s : State} {i : Instr} (h : fetchInstr s = .ok i) : step s = exec i s := by
  simp [step, h]

theorem step_eq_runIllegal {s : State} {opcode : Byte} (h : fetchInstr s = .error opcode) :
    step s = runIllegal opcode s := by
  simp [step, h]

end Sys2Proof.Machine
end

