-- ==== Sys2Proof/Laws/Handlers.lean ====
section
/-! SUPPORT. Inversion of the handler shapes: each says, once, every way a shared shape of handler completes. -/

namespace Sys2Proof.Machine

/-- A mapped result completes exactly where the result does. -/
theorem map_eq_ok {ε α β : Type} {e : Except ε α} {f : α → β} {t : β} :
    e.map f = .ok t ↔ ∃ v, e = .ok v ∧ f v = t := by
  cases e <;> simp [Except.map]

/-- A handler over an operand completes exactly where the operand is read, in the state its continuation gives. -/
theorem withOperand_eq_ok {o : Operand} {k : Byte → State → State} {s t : State} :
    withOperand o k s = .ok t ↔ ∃ v, readOperand o s = .ok v ∧ k v s = t := map_eq_ok

/-- A store completes exactly where the address resolves. -/
theorem storeByte_eq_ok {o : Operand} {b : Byte} {s t : State} :
    storeByte b o s = .ok t ↔ ∃ ea, resolveAddress o s = .ok ea ∧ s.memWrite ea b = t := map_eq_ok

/-- A read-modify-write of memory completes exactly where the address resolves. -/
theorem modifyMemory_eq_ok {f : Byte → Byte} {o : Operand} {s t : State} :
    modifyMemory f o s = .ok t ↔ ∃ ea, resolveAddress o s = .ok ea ∧
      (s.memWrite ea (f (s.mem.read ea))).updateNZ (f (s.mem.read ea)) = t := map_eq_ok

/-- A shift completes on the accumulator, or on the byte at the effective address. -/
theorem shiftWith_eq_ok {f : Byte → Bool → Byte × Bool} {o : Operand} {s t : State} :
    shiftWith f o s = .ok t ↔
      (o = .acc ∧ t = ((s.setFlag .C (f s.a (s.flag .C)).2).setA (f s.a (s.flag .C)).1).updateNZ
        (f s.a (s.flag .C)).1) ∨
      (o ≠ .acc ∧ ∃ ea, resolveAddress o s = .ok ea ∧
        t = ((s.setFlag .C (f (s.mem.read ea) (s.flag .C)).2).memWrite ea
          (f (s.mem.read ea) (s.flag .C)).1).updateNZ (f (s.mem.read ea) (s.flag .C)).1) := by
  cases o <;> simp [shiftWith, eq_comm, shifted, resolveAddress, State.memRead, Except.map]

/-- A branch completes on an offset only, taken or not. -/
theorem branch_eq_ok {c : Bool} {o : Operand} {s t : State} :
    branch c o s = .ok t ↔ ∃ op1, o = .rel op1 ∧ t = (if c then s.setPC (s.pc + sext16 op1) else s) := by
  cases o <;> simp [branch, eq_comm]

/-- A handler behind the decimal check completes exactly where the check passes and the handler does. -/
theorem guarded_eq_ok {c : Bool} {d : Diagnostic} {x : Except Diagnostic State} {t : State} :
    (if c = true then .error d else x) = Except.ok t ↔ c = false ∧ x = .ok t := by
  cases c <;> simp

end Sys2Proof.Machine
end

