-- ==== Sys2Proof/Laws/Memory.lean ====
section
/-! SUPPORT. The laws of memory (`20_memory.md` R33, R34): a read gives the byte last written, a write leaves every other
byte alone, and every write keeps the canonical form. The read laws hold of every list, canonical or not. -/

namespace Sys2Proof.Machine

theorem lookupCell_eraseCell_same (cells : List Host.Cell) (k : Nat) :
    lookupCell (eraseCell cells k) k = Config.unlistedByte := by
  induction cells with
  | nil => rfl
  | cons c rest ih =>
      by_cases h : c.1 = k
      · simp [eraseCell, h, ih]
      · simp [eraseCell, lookupCell, h, ih]

theorem lookupCell_eraseCell_ne (cells : List Host.Cell) {j k : Nat} (hjk : j ≠ k) :
    lookupCell (eraseCell cells k) j = lookupCell cells j := by
  induction cells with
  | nil => rfl
  | cons c rest ih =>
      by_cases h : c.1 = k
      · have hj : c.1 ≠ j := fun e => hjk (e.symm.trans h)
        simp [eraseCell, lookupCell, h, ih, Ne.symm hjk]
      · by_cases hj : c.1 = j <;> simp [eraseCell, lookupCell, h, hj, ih]
        · simp [hjk, lookupCell]

theorem lookupCell_insertCell_ne (cells : List Host.Cell) (v : Byte) {j k : Nat} (hjk : j ≠ k) :
    lookupCell (insertCell cells k v) j = lookupCell cells j := by
  induction cells with
  | nil => simp [insertCell, lookupCell, Ne.symm hjk]
  | cons c rest ih =>
      by_cases h : k < c.1
      · simp [insertCell, lookupCell, h, Ne.symm hjk]
      · by_cases hj : c.1 = j
        · simp [insertCell, lookupCell, h, if_pos hj]
        · simp [insertCell, lookupCell, h, hj, ih]

/-- Inserting key `k` in a list that does not hold it makes the list answer `v` there. -/
theorem lookupCell_insertCell_same (cells : List Host.Cell) (k : Nat) (v : Byte) :
    lookupCell (insertCell (eraseCell cells k) k v) k = v := by
  induction cells with
  | nil => simp [eraseCell, insertCell, lookupCell]
  | cons c rest ih =>
      by_cases h : c.1 = k
      · simp [eraseCell, h, ih]
      · by_cases hk : k < c.1 <;> simp [eraseCell, insertCell, lookupCell, h, hk, ih]

theorem lookupCell_storeCell_same (cells : List Host.Cell) (k : Nat) (v : Byte) :
    lookupCell (storeCell cells k v) k = v := by
  by_cases h : v = Config.unlistedByte
  · simp [storeCell, h, lookupCell_eraseCell_same]
  · simp [storeCell, h, lookupCell_insertCell_same]

theorem lookupCell_storeCell_ne (cells : List Host.Cell) (v : Byte) {j k : Nat} (hjk : j ≠ k) :
    lookupCell (storeCell cells k v) j = lookupCell cells j := by
  by_cases h : v = Config.unlistedByte <;>
    simp [storeCell, h, lookupCell_eraseCell_ne _ hjk, lookupCell_insertCell_ne _ _ hjk]

/-- A read gives the byte last written to that address. -/
@[simp] theorem Memory.read_write_same (m : Memory) (a : Addr) (v : Byte) : (m.write a v).read a = v :=
  lookupCell_storeCell_same _ _ _

/-- A write changes no other byte. -/
theorem Memory.read_write_ne (m : Memory) (v : Byte) {a b : Addr} (h : b ≠ a) :
    (m.write a v).read b = m.read b :=
  lookupCell_storeCell_ne _ _ (fun e => h (BitVec.eq_of_toNat_eq e))

theorem Memory.read_write (m : Memory) (v : Byte) (a b : Addr) :
    (m.write a v).read b = if b = a then v else m.read b := by
  by_cases h : b = a
  · simp [h]
  · simp [h, Memory.read_write_ne]

/-- A list whose keys rise from above `below` also rises from above any lower bound. -/
theorem cellsOrdered_mono (cells : List Host.Cell) {lo hi : Nat} (h : lo ≤ hi) (hc : cellsOrdered hi cells = true) :
    cellsOrdered lo cells = true := by
  cases cells with
  | nil => rfl
  | cons c rest => simp [cellsOrdered] at hc ⊢; exact ⟨⟨⟨by omega, hc.1.1.2⟩, hc.1.2⟩, hc.2⟩

theorem cellsOrdered_eraseCell (cells : List Host.Cell) (k : Nat) {lo : Nat} (hc : cellsOrdered lo cells = true) :
    cellsOrdered lo (eraseCell cells k) = true := by
  induction cells generalizing lo with
  | nil => rfl
  | cons c rest ih =>
      simp [cellsOrdered] at hc
      by_cases h : c.1 = k
      · simpa [eraseCell, h] using ih (cellsOrdered_mono rest (by omega) hc.2)
      · simp [eraseCell, h, cellsOrdered, hc.1, ih hc.2]

theorem cellsOrdered_insertCell (cells : List Host.Cell) {k lo : Nat} {v : Byte} (hlo : lo ≤ k) (hk : k < 65536)
    (hv : v ≠ Config.unlistedByte) (hc : cellsOrdered lo (eraseCell cells k) = true) :
    cellsOrdered lo (insertCell (eraseCell cells k) k v) = true := by
  induction cells generalizing lo with
  | nil => simp [eraseCell, insertCell, cellsOrdered, hlo, hk, hv]
  | cons c rest ih =>
      by_cases h : c.1 = k
      · simp only [eraseCell, h, ↓reduceIte] at hc ⊢; exact ih hlo hc
      · simp only [eraseCell, h, ↓reduceIte] at hc ⊢
        simp [cellsOrdered] at hc
        by_cases hlt : k < c.1
        · simp [insertCell, hlt, cellsOrdered, hlo, hk, hv, hc.1.1.2, hc.1.2, hc.2, Nat.succ_le_of_lt hlt]
        · have := ih (lo := c.1 + 1) (by omega) hc.2
          simp [insertCell, hlt, cellsOrdered, hc.1, this]

/-- Every write keeps the canonical form. -/
theorem Memory.wf_write {m : Memory} (a : Addr) (v : Byte) (h : m.wf = true) : (m.write a v).wf = true := by
  have he := cellsOrdered_eraseCell m.cells a.toNat h
  by_cases hv : v = Config.unlistedByte
  · simpa [Memory.wf, Memory.write, storeCell, hv] using he
  · simpa [Memory.wf, Memory.write, storeCell, hv] using
      cellsOrdered_insertCell m.cells (Nat.zero_le _) a.isLt hv he

/-- The memory that lists nothing is canonical. -/
theorem Memory.wf_nil : (Memory.mk []).wf = true := rfl

end Sys2Proof.Machine
end

