-- ==== Sys2Proof/Laws/PerInstr.lean ====
section
/-! SUPPORT. Statements about every instruction as syntax, one lemma for each constructor. The family RecordWellFormed
says that the record an instruction stands for is well formed (`48_dispatch_and_step.md` R148) and that its encoding is
as long as the record says (`30_encoding.md` R47, R50). -/

namespace Sys2Proof.Laws.RecordWellFormed

/-- The record is well formed and the encoding has its length. -/
def Statement (i : Instr) : Prop := i.wellFormed = true ∧ (encode i).length = lengthOf i

theorem ldaImm (op1 : Byte) : Statement (.ldaImm op1) := ⟨rfl, rfl⟩
theorem ldaZp (op1 : Byte) : Statement (.ldaZp op1) := ⟨rfl, rfl⟩
theorem ldaZpx (op1 : Byte) : Statement (.ldaZpx op1) := ⟨rfl, rfl⟩
theorem ldaAbs (op1 op2 : Byte) : Statement (.ldaAbs op1 op2) := ⟨rfl, rfl⟩
theorem ldaAbx (op1 op2 : Byte) : Statement (.ldaAbx op1 op2) := ⟨rfl, rfl⟩
theorem ldaAby (op1 op2 : Byte) : Statement (.ldaAby op1 op2) := ⟨rfl, rfl⟩
theorem ldaIzx (op1 : Byte) : Statement (.ldaIzx op1) := ⟨rfl, rfl⟩
theorem ldaIzy (op1 : Byte) : Statement (.ldaIzy op1) := ⟨rfl, rfl⟩
theorem ldxImm (op1 : Byte) : Statement (.ldxImm op1) := ⟨rfl, rfl⟩
theorem ldxZp (op1 : Byte) : Statement (.ldxZp op1) := ⟨rfl, rfl⟩
theorem ldxZpy (op1 : Byte) : Statement (.ldxZpy op1) := ⟨rfl, rfl⟩
theorem ldxAbs (op1 op2 : Byte) : Statement (.ldxAbs op1 op2) := ⟨rfl, rfl⟩
theorem ldxAby (op1 op2 : Byte) : Statement (.ldxAby op1 op2) := ⟨rfl, rfl⟩
theorem ldyImm (op1 : Byte) : Statement (.ldyImm op1) := ⟨rfl, rfl⟩
theorem ldyZp (op1 : Byte) : Statement (.ldyZp op1) := ⟨rfl, rfl⟩
theorem ldyZpx (op1 : Byte) : Statement (.ldyZpx op1) := ⟨rfl, rfl⟩
theorem ldyAbs (op1 op2 : Byte) : Statement (.ldyAbs op1 op2) := ⟨rfl, rfl⟩
theorem ldyAbx (op1 op2 : Byte) : Statement (.ldyAbx op1 op2) := ⟨rfl, rfl⟩
theorem staZp (op1 : Byte) : Statement (.staZp op1) := ⟨rfl, rfl⟩
theorem staZpx (op1 : Byte) : Statement (.staZpx op1) := ⟨rfl, rfl⟩
theorem staAbs (op1 op2 : Byte) : Statement (.staAbs op1 op2) := ⟨rfl, rfl⟩
theorem staAbx (op1 op2 : Byte) : Statement (.staAbx op1 op2) := ⟨rfl, rfl⟩
theorem staAby (op1 op2 : Byte) : Statement (.staAby op1 op2) := ⟨rfl, rfl⟩
theorem staIzx (op1 : Byte) : Statement (.staIzx op1) := ⟨rfl, rfl⟩
theorem staIzy (op1 : Byte) : Statement (.staIzy op1) := ⟨rfl, rfl⟩
theorem stxZp (op1 : Byte) : Statement (.stxZp op1) := ⟨rfl, rfl⟩
theorem stxZpy (op1 : Byte) : Statement (.stxZpy op1) := ⟨rfl, rfl⟩
theorem stxAbs (op1 op2 : Byte) : Statement (.stxAbs op1 op2) := ⟨rfl, rfl⟩
theorem styZp (op1 : Byte) : Statement (.styZp op1) := ⟨rfl, rfl⟩
theorem styZpx (op1 : Byte) : Statement (.styZpx op1) := ⟨rfl, rfl⟩
theorem styAbs (op1 op2 : Byte) : Statement (.styAbs op1 op2) := ⟨rfl, rfl⟩
theorem tax : Statement (.tax) := ⟨rfl, rfl⟩
theorem tay : Statement (.tay) := ⟨rfl, rfl⟩
theorem txa : Statement (.txa) := ⟨rfl, rfl⟩
theorem tya : Statement (.tya) := ⟨rfl, rfl⟩
theorem tsx : Statement (.tsx) := ⟨rfl, rfl⟩
theorem txs : Statement (.txs) := ⟨rfl, rfl⟩
theorem andImm (op1 : Byte) : Statement (.andImm op1) := ⟨rfl, rfl⟩
theorem andZp (op1 : Byte) : Statement (.andZp op1) := ⟨rfl, rfl⟩
theorem andZpx (op1 : Byte) : Statement (.andZpx op1) := ⟨rfl, rfl⟩
theorem andAbs (op1 op2 : Byte) : Statement (.andAbs op1 op2) := ⟨rfl, rfl⟩
theorem andAbx (op1 op2 : Byte) : Statement (.andAbx op1 op2) := ⟨rfl, rfl⟩
theorem andAby (op1 op2 : Byte) : Statement (.andAby op1 op2) := ⟨rfl, rfl⟩
theorem andIzx (op1 : Byte) : Statement (.andIzx op1) := ⟨rfl, rfl⟩
theorem andIzy (op1 : Byte) : Statement (.andIzy op1) := ⟨rfl, rfl⟩
theorem oraImm (op1 : Byte) : Statement (.oraImm op1) := ⟨rfl, rfl⟩
theorem oraZp (op1 : Byte) : Statement (.oraZp op1) := ⟨rfl, rfl⟩
theorem oraZpx (op1 : Byte) : Statement (.oraZpx op1) := ⟨rfl, rfl⟩
theorem oraAbs (op1 op2 : Byte) : Statement (.oraAbs op1 op2) := ⟨rfl, rfl⟩
theorem oraAbx (op1 op2 : Byte) : Statement (.oraAbx op1 op2) := ⟨rfl, rfl⟩
theorem oraAby (op1 op2 : Byte) : Statement (.oraAby op1 op2) := ⟨rfl, rfl⟩
theorem oraIzx (op1 : Byte) : Statement (.oraIzx op1) := ⟨rfl, rfl⟩
theorem oraIzy (op1 : Byte) : Statement (.oraIzy op1) := ⟨rfl, rfl⟩
theorem eorImm (op1 : Byte) : Statement (.eorImm op1) := ⟨rfl, rfl⟩
theorem eorZp (op1 : Byte) : Statement (.eorZp op1) := ⟨rfl, rfl⟩
theorem eorZpx (op1 : Byte) : Statement (.eorZpx op1) := ⟨rfl, rfl⟩
theorem eorAbs (op1 op2 : Byte) : Statement (.eorAbs op1 op2) := ⟨rfl, rfl⟩
theorem eorAbx (op1 op2 : Byte) : Statement (.eorAbx op1 op2) := ⟨rfl, rfl⟩
theorem eorAby (op1 op2 : Byte) : Statement (.eorAby op1 op2) := ⟨rfl, rfl⟩
theorem eorIzx (op1 : Byte) : Statement (.eorIzx op1) := ⟨rfl, rfl⟩
theorem eorIzy (op1 : Byte) : Statement (.eorIzy op1) := ⟨rfl, rfl⟩
theorem incZp (op1 : Byte) : Statement (.incZp op1) := ⟨rfl, rfl⟩
theorem incZpx (op1 : Byte) : Statement (.incZpx op1) := ⟨rfl, rfl⟩
theorem incAbs (op1 op2 : Byte) : Statement (.incAbs op1 op2) := ⟨rfl, rfl⟩
theorem incAbx (op1 op2 : Byte) : Statement (.incAbx op1 op2) := ⟨rfl, rfl⟩
theorem decZp (op1 : Byte) : Statement (.decZp op1) := ⟨rfl, rfl⟩
theorem decZpx (op1 : Byte) : Statement (.decZpx op1) := ⟨rfl, rfl⟩
theorem decAbs (op1 op2 : Byte) : Statement (.decAbs op1 op2) := ⟨rfl, rfl⟩
theorem decAbx (op1 op2 : Byte) : Statement (.decAbx op1 op2) := ⟨rfl, rfl⟩
theorem inx : Statement (.inx) := ⟨rfl, rfl⟩
theorem iny : Statement (.iny) := ⟨rfl, rfl⟩
theorem dex : Statement (.dex) := ⟨rfl, rfl⟩
theorem dey : Statement (.dey) := ⟨rfl, rfl⟩
theorem aslAcc : Statement (.aslAcc) := ⟨rfl, rfl⟩
theorem aslZp (op1 : Byte) : Statement (.aslZp op1) := ⟨rfl, rfl⟩
theorem aslZpx (op1 : Byte) : Statement (.aslZpx op1) := ⟨rfl, rfl⟩
theorem aslAbs (op1 op2 : Byte) : Statement (.aslAbs op1 op2) := ⟨rfl, rfl⟩
theorem aslAbx (op1 op2 : Byte) : Statement (.aslAbx op1 op2) := ⟨rfl, rfl⟩
theorem lsrAcc : Statement (.lsrAcc) := ⟨rfl, rfl⟩
theorem lsrZp (op1 : Byte) : Statement (.lsrZp op1) := ⟨rfl, rfl⟩
theorem lsrZpx (op1 : Byte) : Statement (.lsrZpx op1) := ⟨rfl, rfl⟩
theorem lsrAbs (op1 op2 : Byte) : Statement (.lsrAbs op1 op2) := ⟨rfl, rfl⟩
theorem lsrAbx (op1 op2 : Byte) : Statement (.lsrAbx op1 op2) := ⟨rfl, rfl⟩
theorem rolAcc : Statement (.rolAcc) := ⟨rfl, rfl⟩
theorem rolZp (op1 : Byte) : Statement (.rolZp op1) := ⟨rfl, rfl⟩
theorem rolZpx (op1 : Byte) : Statement (.rolZpx op1) := ⟨rfl, rfl⟩
theorem rolAbs (op1 op2 : Byte) : Statement (.rolAbs op1 op2) := ⟨rfl, rfl⟩
theorem rolAbx (op1 op2 : Byte) : Statement (.rolAbx op1 op2) := ⟨rfl, rfl⟩
theorem rorAcc : Statement (.rorAcc) := ⟨rfl, rfl⟩
theorem rorZp (op1 : Byte) : Statement (.rorZp op1) := ⟨rfl, rfl⟩
theorem rorZpx (op1 : Byte) : Statement (.rorZpx op1) := ⟨rfl, rfl⟩
theorem rorAbs (op1 op2 : Byte) : Statement (.rorAbs op1 op2) := ⟨rfl, rfl⟩
theorem rorAbx (op1 op2 : Byte) : Statement (.rorAbx op1 op2) := ⟨rfl, rfl⟩
theorem adcImm (op1 : Byte) : Statement (.adcImm op1) := ⟨rfl, rfl⟩
theorem adcZp (op1 : Byte) : Statement (.adcZp op1) := ⟨rfl, rfl⟩
theorem adcZpx (op1 : Byte) : Statement (.adcZpx op1) := ⟨rfl, rfl⟩
theorem adcAbs (op1 op2 : Byte) : Statement (.adcAbs op1 op2) := ⟨rfl, rfl⟩
theorem adcAbx (op1 op2 : Byte) : Statement (.adcAbx op1 op2) := ⟨rfl, rfl⟩
theorem adcAby (op1 op2 : Byte) : Statement (.adcAby op1 op2) := ⟨rfl, rfl⟩
theorem adcIzx (op1 : Byte) : Statement (.adcIzx op1) := ⟨rfl, rfl⟩
theorem adcIzy (op1 : Byte) : Statement (.adcIzy op1) := ⟨rfl, rfl⟩
theorem sbcImm (op1 : Byte) : Statement (.sbcImm op1) := ⟨rfl, rfl⟩
theorem sbcZp (op1 : Byte) : Statement (.sbcZp op1) := ⟨rfl, rfl⟩
theorem sbcZpx (op1 : Byte) : Statement (.sbcZpx op1) := ⟨rfl, rfl⟩
theorem sbcAbs (op1 op2 : Byte) : Statement (.sbcAbs op1 op2) := ⟨rfl, rfl⟩
theorem sbcAbx (op1 op2 : Byte) : Statement (.sbcAbx op1 op2) := ⟨rfl, rfl⟩
theorem sbcAby (op1 op2 : Byte) : Statement (.sbcAby op1 op2) := ⟨rfl, rfl⟩
theorem sbcIzx (op1 : Byte) : Statement (.sbcIzx op1) := ⟨rfl, rfl⟩
theorem sbcIzy (op1 : Byte) : Statement (.sbcIzy op1) := ⟨rfl, rfl⟩
theorem cmpImm (op1 : Byte) : Statement (.cmpImm op1) := ⟨rfl, rfl⟩
theorem cmpZp (op1 : Byte) : Statement (.cmpZp op1) := ⟨rfl, rfl⟩
theorem cmpZpx (op1 : Byte) : Statement (.cmpZpx op1) := ⟨rfl, rfl⟩
theorem cmpAbs (op1 op2 : Byte) : Statement (.cmpAbs op1 op2) := ⟨rfl, rfl⟩
theorem cmpAbx (op1 op2 : Byte) : Statement (.cmpAbx op1 op2) := ⟨rfl, rfl⟩
theorem cmpAby (op1 op2 : Byte) : Statement (.cmpAby op1 op2) := ⟨rfl, rfl⟩
theorem cmpIzx (op1 : Byte) : Statement (.cmpIzx op1) := ⟨rfl, rfl⟩
theorem cmpIzy (op1 : Byte) : Statement (.cmpIzy op1) := ⟨rfl, rfl⟩
theorem cpxImm (op1 : Byte) : Statement (.cpxImm op1) := ⟨rfl, rfl⟩
theorem cpxZp (op1 : Byte) : Statement (.cpxZp op1) := ⟨rfl, rfl⟩
theorem cpxAbs (op1 op2 : Byte) : Statement (.cpxAbs op1 op2) := ⟨rfl, rfl⟩
theorem cpyImm (op1 : Byte) : Statement (.cpyImm op1) := ⟨rfl, rfl⟩
theorem cpyZp (op1 : Byte) : Statement (.cpyZp op1) := ⟨rfl, rfl⟩
theorem cpyAbs (op1 op2 : Byte) : Statement (.cpyAbs op1 op2) := ⟨rfl, rfl⟩
theorem bitZp (op1 : Byte) : Statement (.bitZp op1) := ⟨rfl, rfl⟩
theorem bitAbs (op1 op2 : Byte) : Statement (.bitAbs op1 op2) := ⟨rfl, rfl⟩
theorem pha : Statement (.pha) := ⟨rfl, rfl⟩
theorem php : Statement (.php) := ⟨rfl, rfl⟩
theorem pla : Statement (.pla) := ⟨rfl, rfl⟩
theorem plp : Statement (.plp) := ⟨rfl, rfl⟩
theorem jmpAbs (op1 op2 : Byte) : Statement (.jmpAbs op1 op2) := ⟨rfl, rfl⟩
theorem jmpInd (op1 op2 : Byte) : Statement (.jmpInd op1 op2) := ⟨rfl, rfl⟩
theorem jsr (op1 op2 : Byte) : Statement (.jsr op1 op2) := ⟨rfl, rfl⟩
theorem rts : Statement (.rts) := ⟨rfl, rfl⟩
theorem bpl (op1 : Byte) : Statement (.bpl op1) := ⟨rfl, rfl⟩
theorem bmi (op1 : Byte) : Statement (.bmi op1) := ⟨rfl, rfl⟩
theorem bvc (op1 : Byte) : Statement (.bvc op1) := ⟨rfl, rfl⟩
theorem bvs (op1 : Byte) : Statement (.bvs op1) := ⟨rfl, rfl⟩
theorem bcc (op1 : Byte) : Statement (.bcc op1) := ⟨rfl, rfl⟩
theorem bcs (op1 : Byte) : Statement (.bcs op1) := ⟨rfl, rfl⟩
theorem bne (op1 : Byte) : Statement (.bne op1) := ⟨rfl, rfl⟩
theorem beq (op1 : Byte) : Statement (.beq op1) := ⟨rfl, rfl⟩
theorem clc : Statement (.clc) := ⟨rfl, rfl⟩
theorem sec : Statement (.sec) := ⟨rfl, rfl⟩
theorem cli : Statement (.cli) := ⟨rfl, rfl⟩
theorem sei : Statement (.sei) := ⟨rfl, rfl⟩
theorem clv : Statement (.clv) := ⟨rfl, rfl⟩
theorem cld : Statement (.cld) := ⟨rfl, rfl⟩
theorem sed : Statement (.sed) := ⟨rfl, rfl⟩
theorem nop : Statement (.nop) := ⟨rfl, rfl⟩
theorem brk : Statement (.brk) := ⟨rfl, rfl⟩
theorem rti : Statement (.rti) := ⟨rfl, rfl⟩

end Sys2Proof.Laws.RecordWellFormed
end

