-- ==== Sys2Proof/Tests/Slice0.lean ====
section
/-! SUPPORT. Tests: ill-formed records refused, words written out from the spec's encodings, single steps from the spec's
test vectors, and for each obligation with hypotheses a state that meets them. Expected values are those of
`95_test_vectors.md` (the id in the name) or of the rule a comment names. -/

namespace Sys2Proof.Tests

open Sys2Proof Sys2Proof.Machine

/-- A state with an instruction's bytes at `pc` and the listed bytes in memory. -/
def load (pc : Addr) (bytes : List Byte) (cells : List (Addr × Byte)) (s : State) : State :=
  storeBytes pc bytes { s with pc := pc, mem := cells.foldl (fun m c => m.write c.1 c.2) s.mem }

/-- What a function shows of a step's next state. -/
def shown {α : Type} (r : StepResult) (f : State → α) : Option α :=
  match r with
  | .next t => some (f t)
  | .fault _ => none
  | .refused _ => none

/-- What a function shows after one step of the byte level. -/
def after {α : Type} (s : State) (f : State → α) : Option α := shown (step s) f

/-! Decoding, by words written out from the opcode map (`30_encoding.md` R51). -/

/-- Every word of a list, of the given number of bits, decodes to the instruction beside it. The words of the next six
tests are the match values of `opcode_table.json` with operand bytes 0x34 (first) and 0x12 (second). -/
def reads (words : List (Nat × Nat × Instr)) : Bool :=
  words.all (fun w => decodeTableWord w.1 w.2.1 == some w.2.2)

theorem decode_loads_stores_transfers :
    (reads [(16, 0x34A1, .ldaIzx 0x34), (16, 0x34A5, .ldaZp 0x34), (16, 0x34A9, .ldaImm 0x34),
       (24, 0x1234AD, .ldaAbs 0x34 0x12), (16, 0x34B1, .ldaIzy 0x34), (16, 0x34B5, .ldaZpx 0x34),
       (24, 0x1234B9, .ldaAby 0x34 0x12), (24, 0x1234BD, .ldaAbx 0x34 0x12), (16, 0x34A2, .ldxImm 0x34),
       (16, 0x34A6, .ldxZp 0x34), (24, 0x1234AE, .ldxAbs 0x34 0x12), (16, 0x34B6, .ldxZpy 0x34),
       (24, 0x1234BE, .ldxAby 0x34 0x12), (16, 0x34A0, .ldyImm 0x34), (16, 0x34A4, .ldyZp 0x34),
       (24, 0x1234AC, .ldyAbs 0x34 0x12), (16, 0x34B4, .ldyZpx 0x34), (24, 0x1234BC, .ldyAbx 0x34 0x12),
       (16, 0x3481, .staIzx 0x34), (16, 0x3485, .staZp 0x34), (24, 0x12348D, .staAbs 0x34 0x12),
       (16, 0x3491, .staIzy 0x34), (16, 0x3495, .staZpx 0x34), (24, 0x123499, .staAby 0x34 0x12)] &&
      reads [(24, 0x12349D, .staAbx 0x34 0x12), (16, 0x3486, .stxZp 0x34), (24, 0x12348E, .stxAbs 0x34 0x12),
       (16, 0x3496, .stxZpy 0x34), (16, 0x3484, .styZp 0x34), (24, 0x12348C, .styAbs 0x34 0x12),
       (16, 0x3494, .styZpx 0x34), (8, 0xAA, .tax), (8, 0xA8, .tay),
       (8, 0x8A, .txa), (8, 0x98, .tya), (8, 0xBA, .tsx),
       (8, 0x9A, .txs)]) = true := by decide

theorem decode_logical_incdec :
    (reads [(16, 0x3421, .andIzx 0x34), (16, 0x3425, .andZp 0x34), (16, 0x3429, .andImm 0x34),
       (24, 0x12342D, .andAbs 0x34 0x12), (16, 0x3431, .andIzy 0x34), (16, 0x3435, .andZpx 0x34),
       (24, 0x123439, .andAby 0x34 0x12), (24, 0x12343D, .andAbx 0x34 0x12), (16, 0x3401, .oraIzx 0x34),
       (16, 0x3405, .oraZp 0x34), (16, 0x3409, .oraImm 0x34), (24, 0x12340D, .oraAbs 0x34 0x12),
       (16, 0x3411, .oraIzy 0x34), (16, 0x3415, .oraZpx 0x34), (24, 0x123419, .oraAby 0x34 0x12),
       (24, 0x12341D, .oraAbx 0x34 0x12), (16, 0x3441, .eorIzx 0x34), (16, 0x3445, .eorZp 0x34),
       (16, 0x3449, .eorImm 0x34), (24, 0x12344D, .eorAbs 0x34 0x12), (16, 0x3451, .eorIzy 0x34),
       (16, 0x3455, .eorZpx 0x34), (24, 0x123459, .eorAby 0x34 0x12), (24, 0x12345D, .eorAbx 0x34 0x12)] &&
      reads [(16, 0x34E6, .incZp 0x34), (24, 0x1234EE, .incAbs 0x34 0x12), (16, 0x34F6, .incZpx 0x34),
       (24, 0x1234FE, .incAbx 0x34 0x12), (16, 0x34C6, .decZp 0x34), (24, 0x1234CE, .decAbs 0x34 0x12),
       (16, 0x34D6, .decZpx 0x34), (24, 0x1234DE, .decAbx 0x34 0x12), (8, 0xE8, .inx),
       (8, 0xC8, .iny), (8, 0xCA, .dex), (8, 0x88, .dey)]) = true := by decide

theorem decode_shifts :
    (reads [(16, 0x3406, .aslZp 0x34), (8, 0x0A, .aslAcc), (24, 0x12340E, .aslAbs 0x34 0x12),
       (16, 0x3416, .aslZpx 0x34), (24, 0x12341E, .aslAbx 0x34 0x12), (16, 0x3446, .lsrZp 0x34),
       (8, 0x4A, .lsrAcc), (24, 0x12344E, .lsrAbs 0x34 0x12), (16, 0x3456, .lsrZpx 0x34),
       (24, 0x12345E, .lsrAbx 0x34 0x12), (16, 0x3426, .rolZp 0x34), (8, 0x2A, .rolAcc),
       (24, 0x12342E, .rolAbs 0x34 0x12), (16, 0x3436, .rolZpx 0x34), (24, 0x12343E, .rolAbx 0x34 0x12),
       (16, 0x3466, .rorZp 0x34), (8, 0x6A, .rorAcc), (24, 0x12346E, .rorAbs 0x34 0x12),
       (16, 0x3476, .rorZpx 0x34), (24, 0x12347E, .rorAbx 0x34 0x12)]) = true := by decide

theorem decode_arithmetic :
    (reads [(16, 0x3461, .adcIzx 0x34), (16, 0x3465, .adcZp 0x34), (16, 0x3469, .adcImm 0x34),
       (24, 0x12346D, .adcAbs 0x34 0x12), (16, 0x3471, .adcIzy 0x34), (16, 0x3475, .adcZpx 0x34),
       (24, 0x123479, .adcAby 0x34 0x12), (24, 0x12347D, .adcAbx 0x34 0x12), (16, 0x34E1, .sbcIzx 0x34),
       (16, 0x34E5, .sbcZp 0x34), (16, 0x34E9, .sbcImm 0x34), (24, 0x1234ED, .sbcAbs 0x34 0x12),
       (16, 0x34F1, .sbcIzy 0x34), (16, 0x34F5, .sbcZpx 0x34), (24, 0x1234F9, .sbcAby 0x34 0x12),
       (24, 0x1234FD, .sbcAbx 0x34 0x12), (16, 0x34C1, .cmpIzx 0x34), (16, 0x34C5, .cmpZp 0x34),
       (16, 0x34C9, .cmpImm 0x34), (24, 0x1234CD, .cmpAbs 0x34 0x12), (16, 0x34D1, .cmpIzy 0x34),
       (16, 0x34D5, .cmpZpx 0x34), (24, 0x1234D9, .cmpAby 0x34 0x12), (24, 0x1234DD, .cmpAbx 0x34 0x12)] &&
      reads [(16, 0x34E0, .cpxImm 0x34), (16, 0x34E4, .cpxZp 0x34), (24, 0x1234EC, .cpxAbs 0x34 0x12),
       (16, 0x34C0, .cpyImm 0x34), (16, 0x34C4, .cpyZp 0x34), (24, 0x1234CC, .cpyAbs 0x34 0x12),
       (16, 0x3424, .bitZp 0x34), (24, 0x12342C, .bitAbs 0x34 0x12)]) = true := by decide

theorem decode_stack_and_control :
    (reads [(8, 0x48, .pha), (8, 0x08, .php), (8, 0x68, .pla),
       (8, 0x28, .plp), (24, 0x12344C, .jmpAbs 0x34 0x12), (24, 0x12346C, .jmpInd 0x34 0x12),
       (24, 0x123420, .jsr 0x34 0x12), (8, 0x60, .rts), (16, 0x3410, .bpl 0x34),
       (16, 0x3430, .bmi 0x34), (16, 0x3450, .bvc 0x34), (16, 0x3470, .bvs 0x34),
       (16, 0x3490, .bcc 0x34), (16, 0x34B0, .bcs 0x34), (16, 0x34D0, .bne 0x34),
       (16, 0x34F0, .beq 0x34)]) = true := by decide

theorem decode_flags_and_system :
    (reads [(8, 0x18, .clc), (8, 0x38, .sec), (8, 0x58, .cli),
       (8, 0x78, .sei), (8, 0xB8, .clv), (8, 0xD8, .cld),
       (8, 0xF8, .sed), (8, 0xEA, .nop), (8, 0x00, .brk),
       (8, 0x40, .rti)]) = true := by decide

/-- R53: none of the 105 illegal opcode bytes decodes. -/
theorem decode_refuses_illegal_bytes :
    illegalOpcodes.all (fun opcode => decodeTableWord 8 opcode.toNat == none) = true := by decide

/-- R44, R150: the word placed where the next step fetches it is what that step runs (`LDA $1234`, VA6). -/
theorem test_withFetchWord :
    shown (step ((load 0x0000 [] [(0x1234, 0x77)] State.reset).withFetchWord 24 0x1234AD)) (fun t => (t.a, t.pc)) =
      some (0x77, 0x0003) := by decide

/-! Ill-formed records (`48_dispatch_and_step.md` R148): one for each check of `Record.wellFormed`. -/

/-- The check of the pair: `STA #`, which no cell of the matrix holds. -/
theorem wellFormed_refuses_pair : Record.wellFormed ⟨.known .sta, .imm, some 0x12, none, 2⟩ = false := by decide
/-- The check of the operand bytes: one missing, and one too many. -/
theorem wellFormed_refuses_missing_byte :
    Record.wellFormed ⟨.known .lda, .abs, some 0x34, none, 3⟩ = false := by decide
theorem wellFormed_refuses_extra_byte :
    Record.wellFormed ⟨.known .nop, .imp, some 0x34, none, 1⟩ = false := by decide
/-- The check of the length: that of another mode. -/
theorem wellFormed_refuses_length : Record.wellFormed ⟨.known .lda, .imm, some 0x42, none, 3⟩ = false := by decide
/-- The check of an unknown mnemonic's length (`93_implementation_defined.md` U6): 0 and 4. -/
theorem wellFormed_refuses_unknown_length :
    (Record.wellFormed ⟨.unknown "XYZ", .imp, none, none, 0⟩ ||
      Record.wellFormed ⟨.unknown "XYZ", .imp, none, none, 4⟩) = false := by decide
/-- Well-formed records pass: a known and an unknown mnemonic. -/
theorem wellFormed_accepts :
    (Record.wellFormed ⟨.known .lda, .imm, some 0x42, none, 2⟩ &&
      Record.wellFormed ⟨.unknown "XYZ", .abs, some 0x34, some 0x12, 3⟩) = true := by decide

/-! The record level (`95_test_vectors.md` VR). -/

/-- A state with `PC` at 0x0600. -/
def at600 (s : State) : State := { s with pc := 0x0600 }

/-- Whether a result is the refusal of an ill-formed record of kind (b). -/
def refusesRecord (r : StepResult) : Bool :=
  match r with
  | .refused .illFormedRecord => true
  | .refused (.notModelled _) | .next _ | .fault _ => false

theorem test_VR2_record_not_compared_with_memory :
    shown (executeRecord ⟨.known .lda, .imm, some 0x42, none, 2⟩ (load 0x0600 [0xEA, 0xEA] [] State.reset))
      (fun t => (t.a, t.pc)) = some (0x42, 0x0602) := by decide
theorem test_VR3_unknown_mnemonic :
    shown (executeRecord ⟨.unknown "XYZ", .abs, some 0x34, some 0x12, 3⟩ (at600 { State.reset with a := 0x12 }))
      (fun t => (t.a, t.pc, t.report)) = some (0x12, 0x0603, some (.unknownOpcode (.mnemonic "XYZ"))) := by decide
theorem test_VR4_sta_imm :
    shown (executeRecord ⟨.known .sta, .imm, some 0x12, none, 2⟩ (load 0x0600 [] [(0x0000, 0x77)] State.reset))
      (fun t => (t.pc, t.memRead 0x0000, t.report)) = some (0x0602, 0x77, some (.invalidAddressForMode .imm)) := by
  decide
theorem test_VR5_lda_imp :
    shown (executeRecord ⟨.known .lda, .imp, none, none, 1⟩ (at600 { State.reset with a := 0x55 }))
      (fun t => (t.a, t.pc, t.report)) = some (0x55, 0x0601, some (.invalidAddressForMode .imp)) := by decide
theorem test_VR6_jmp_imm :
    shown (executeRecord ⟨.known .jmp, .imm, some 0x12, none, 2⟩ (at600 State.reset))
      (fun t => (t.pc, t.report)) = some (0x0602, some (.invalidAddressForMode .imm)) := by decide
theorem test_VR7_asl_imm :
    shown (executeRecord ⟨.known .asl, .imm, some 0x81, none, 2⟩ (at600 State.reset))
      (fun t => (t.p, t.report)) = some (0x00, some (.invalidAddressForMode .imm)) := by decide
theorem test_VR10_refused :
    (refusesRecord (executeRecord ⟨.known .lda, .acc, none, none, 1⟩ State.reset) &&
      refusesRecord (executeRecord ⟨.known .bit, .imm, some 0x0F, none, 2⟩ State.reset) &&
      refusesRecord (executeRecord ⟨.known .jmp, .zp, some 0x10, none, 2⟩ State.reset) &&
      refusesRecord (executeRecord ⟨.known .lda, .imm, some 0x42, none, 3⟩ State.reset)) = true := by decide
/-- VR11, its second step: NOP reports nothing and leaves `DIAG` at the code of the step before. -/
theorem test_VR11_diag_is_sticky :
    shown (executeRecord ⟨.known .nop, .imp, none, none, 1⟩
      (at600 { State.reset with diag := .unimplementedSemantics, report := some (.unimplementedSemantics .decimal) }))
      (fun t => ((outputs t).diag, t.diag)) = some (0, .unimplementedSemantics) := by decide

/-! Reset, host moves, parameters, the memory port. -/

/-- VX1's start state, in the registers the test looks at. -/
def beforeReset : State :=
  load 0x1234 [] [(0x0200, 0x99)] { State.reset with a := 0x12, sp := 0x00, p := 0xFF, diag := .unknownOpcode }

theorem test_VX1_reset :
    (fun t : State => (t.a, t.sp, t.pc, t.p, t.diag, t.memRead 0x0200)) beforeReset.applyReset =
      (0x00, 0xFD, 0x0000, 0x00, .none, 0x99) := by decide
theorem test_VX3_poke_is_fetched :
    shown (step (hostAct (.poke 0x0600 0xA9) (load 0x0600 [0xEA, 0x42] [] State.reset))) (fun t => (t.a, t.pc)) =
      some (0x42, 0x0602) := by decide
theorem test_VT1_txs_without_flags :
    (fun t : State => (t.sp, t.p)) (State.transferXToSP false { State.reset with x := 0x00, p := 0x80 }) =
      (0x00, 0x80) := by decide
theorem test_VT3_reset_pc : (State.resetTo 0x0600 { State.reset with pc := 0x1234 }).pc = 0x0600 := by decide

theorem test_VA12_izx_accesses :
    (instrAccesses (.ldaIzx 0xFE) (load 0x0600 [] [(0x0000, 0x43), (0x00FF, 0x21), (0x0100, 0x99), (0x4321, 0xEE)]
      { State.reset with x := 0x01 })) =
      [⟨0x00FF, false, 0x21⟩, ⟨0x0000, false, 0x43⟩, ⟨0x4321, false, 0xEE⟩] := by decide
theorem test_VS8_rmw_accesses :
    (instrAccesses (.rolZpx 0x10) (load 0x0600 [] [(0x0011, 0xFF)] { State.reset with x := 0x01, p := 0x01 })) =
      [⟨0x0011, false, 0xFF⟩, ⟨0x0011, true, 0xFF⟩] := by decide
theorem test_VC2_jsr_accesses :
    stepAccesses (load 0x0836 [0x20, 0x00, 0x09] [] State.reset) =
      [⟨0x0836, false, 0x20⟩, ⟨0x0837, false, 0x00⟩, ⟨0x0838, false, 0x09⟩, ⟨0x01FD, true, 0x08⟩,
        ⟨0x01FC, true, 0x38⟩] := by decide
theorem test_VC5_rts_accesses :
    (instrAccesses .rts (load 0x0600 [] [(0x01FF, 0xFF), (0x0100, 0xFF)] { State.reset with sp := 0xFE })) =
      [⟨0x01FF, false, 0xFF⟩, ⟨0x0100, false, 0xFF⟩] := by decide

/-- Writing the byte that an unlisted address reads as leaves nothing listed. -/
theorem write_unlisted_byte_removes_entry :
    ((Memory.mk []).write 0x0200 0x99).write 0x0200 0x00 = Memory.mk [] := by decide

/-! Single steps of the byte level (`95_test_vectors.md` VA to VF). -/

/-- VA3. -/
theorem test_VA3_lda_zpx_leaves_page_zero :
    after (load 0x0600 [0xB5, 0xFF] [(0x0001, 0x99), (0x0101, 0x44)] { State.reset with x := 0x02 })
      (fun t => (t.a, t.p)) = some (0x44, 0x00) := by decide

/-- VA5. -/
theorem test_VA5_ldx_zpy_leaves_page_zero :
    after (load 0x0600 [0xB6, 0xF0] [(0x0010, 0x99), (0x0110, 0x66)] { State.reset with y := 0x20 })
      (fun t => (t.x, t.p)) = some (0x66, 0x00) := by decide

/-- VL5. -/
theorem test_VL5_ldx_aby :
    after (load 0x0600 [0xBE, 0x00, 0x12] [(0x12FF, 0x01)] { State.reset with y := 0xFF })
      (fun t => (t.x, t.pc)) = some (0x01, 0x0603) := by decide

/-- VL4. -/
theorem test_VL4_ldy_zpx :
    after (load 0x0600 [0xB4, 0x30] [(0x0035, 0x00)] { State.reset with x := 0x05 })
      (fun t => (t.y, t.p)) = some (0x00, 0x02) := by decide

/-- VL6. -/
theorem test_VL6_ldy_abx :
    after (load 0x0600 [0xBC, 0x00, 0x12] [(0x1201, 0x80)] { State.reset with x := 0x01 })
      (fun t => (t.y, t.p)) = some (0x80, 0x80) := by decide

/-- VL8. -/
theorem test_VL8_sta_zpx_spills_into_page_one :
    after (load 0x0600 [0x95, 0x10] [] { State.reset with a := 0x5A, x := 0xF8 })
      (fun t => (t.memRead 0x0108, t.memRead 0x0008)) = some (0x5A, 0x00) := by decide

/-- VA15. -/
theorem test_VA15_sta_izy :
    after (load 0x0600 [0x91, 0x40] [(0x0040, 0x00), (0x0041, 0x03)] { State.reset with a := 0x42, y := 0x10 })
      (fun t => (t.memRead 0x0310, t.pc)) = some (0x42, 0x0602) := by decide

/-- VL11. -/
theorem test_VL11_stx_zpy :
    after (load 0x0600 [0x96, 0x20] [] { State.reset with x := 0x07, y := 0x01 })
      (fun t => (t.memRead 0x0021, t.p)) = some (0x07, 0x00) := by decide

/-- VL12. -/
theorem test_VL12_sty_abs :
    after (load 0x0600 [0x8C, 0x34, 0x12] [] { State.reset with y := 0xFF })
      (fun t => (t.memRead 0x1234, t.p)) = some (0xFF, 0x00) := by decide

/-- VL13. -/
theorem test_VL13_tax :
    after (load 0x0600 [0xAA] [] { State.reset with a := 0x00, x := 0x09 })
      (fun t => (t.x, t.p)) = some (0x00, 0x02) := by decide

/-- VL14. -/
theorem test_VL14_tay :
    after (load 0x0600 [0xA8] [] { State.reset with a := 0x90 })
      (fun t => (t.y, t.p)) = some (0x90, 0x80) := by decide

/-- VL15. -/
theorem test_VL15_txa :
    after (load 0x0600 [0x8A] [] { State.reset with a := 0xFF, x := 0x01, p := 0x80 })
      (fun t => (t.a, t.p)) = some (0x01, 0x00) := by decide

/-- VL16. -/
theorem test_VL16_tya :
    after (load 0x0600 [0x98] [] { State.reset with y := 0xFF })
      (fun t => (t.a, t.p)) = some (0xFF, 0x80) := by decide

/-- VL17. -/
theorem test_VL17_tsx :
    after (load 0x0600 [0xBA] [] State.reset)
      (fun t => (t.x, t.p)) = some (0xFD, 0x80) := by decide

/-- VL18. -/
theorem test_VL18_txs_sets_n :
    after (load 0x0600 [0x9A] [] { State.reset with x := 0xFF })
      (fun t => (t.sp, t.p)) = some (0xFF, 0x80) := by decide

/-- VL19. -/
theorem test_VL19_txs_sets_z_clears_n :
    after (load 0x0600 [0x9A] [] { State.reset with x := 0x00, p := 0x80 })
      (fun t => (t.sp, t.p)) = some (0x00, 0x02) := by decide

/-- VG1. -/
theorem test_VG1_and_imm :
    after (load 0x0600 [0x29, 0x0F] [] { State.reset with a := 0xF0 })
      (fun t => (t.a, t.p)) = some (0x00, 0x02) := by decide

/-- VG2. -/
theorem test_VG2_and_zp :
    after (load 0x0600 [0x25, 0x10] [(0x0010, 0x80)] { State.reset with a := 0xFF })
      (fun t => (t.a, t.p)) = some (0x80, 0x80) := by decide

/-- VG3. -/
theorem test_VG3_ora_imm :
    after (load 0x0600 [0x09, 0x80] [] { State.reset with a := 0x01 })
      (fun t => (t.a, t.p)) = some (0x81, 0x80) := by decide

/-- VG6. -/
theorem test_VG6_eor_abx :
    after (load 0x0600 [0x5D, 0x00, 0x10] [(0x1001, 0x55)] { State.reset with a := 0x55, x := 0x01 })
      (fun t => (t.a, t.p)) = some (0x00, 0x02) := by decide

/-- VG7. -/
theorem test_VG7_inc_wraps :
    after (load 0x0600 [0xE6, 0x10] [(0x0010, 0xFF)] State.reset)
      (fun t => (t.memRead 0x0010, t.p)) = some (0x00, 0x02) := by decide

/-- VG8. -/
theorem test_VG8_inc_abx_keeps_c :
    after (load 0x0600 [0xFE, 0x00, 0x02] [(0x0201, 0x7F)] { State.reset with x := 0x01, p := 0x01 })
      (fun t => (t.memRead 0x0201, t.p)) = some (0x80, 0x81) := by decide

/-- VG9. -/
theorem test_VG9_dec_wraps :
    after (load 0x0600 [0xC6, 0x10] [(0x0010, 0x00)] State.reset)
      (fun t => (t.memRead 0x0010, t.p)) = some (0xFF, 0x80) := by decide

/-- VG10. -/
theorem test_VG10_dec_zpx_in_page_one :
    after (load 0x0600 [0xD6, 0xF0] [(0x0110, 0x01)] { State.reset with x := 0x20 })
      (fun t => (t.memRead 0x0110, t.p)) = some (0x00, 0x02) := by decide

/-- VG11. -/
theorem test_VG11_inx_wraps :
    after (load 0x0600 [0xE8] [] { State.reset with x := 0xFF })
      (fun t => (t.x, t.p)) = some (0x00, 0x02) := by decide

/-- VG12. -/
theorem test_VG12_iny :
    after (load 0x0600 [0xC8] [] { State.reset with y := 0x7F })
      (fun t => (t.y, t.p)) = some (0x80, 0x80) := by decide

/-- VG13. -/
theorem test_VG13_dex_wraps :
    after (load 0x0600 [0xCA] [] { State.reset with x := 0x00 })
      (fun t => (t.x, t.p)) = some (0xFF, 0x80) := by decide

/-- VG14. -/
theorem test_VG14_dey :
    after (load 0x0600 [0x88] [] { State.reset with y := 0x01 })
      (fun t => (t.y, t.p)) = some (0x00, 0x02) := by decide

/-- VS1. -/
theorem test_VS1_asl_acc :
    after (load 0x0600 [0x0A] [] { State.reset with a := 0x81 })
      (fun t => (t.a, t.p)) = some (0x02, 0x01) := by decide

/-- VS3. -/
theorem test_VS3_asl_zp_ignores_old_carry :
    after (load 0x0600 [0x06, 0x10] [(0x0010, 0x40)] { State.reset with p := 0x01 })
      (fun t => (t.memRead 0x0010, t.p)) = some (0x80, 0x80) := by decide

/-- VS4. -/
theorem test_VS4_lsr_acc :
    after (load 0x0600 [0x4A] [] { State.reset with a := 0x01, p := 0x80 })
      (fun t => (t.a, t.p)) = some (0x00, 0x03) := by decide

/-- VS5. -/
theorem test_VS5_lsr_abs :
    after (load 0x0600 [0x4E, 0x00, 0x02] [(0x0200, 0xFE)] { State.reset with p := 0x01 })
      (fun t => (t.memRead 0x0200, t.p)) = some (0x7F, 0x00) := by decide

/-- VS6. -/
theorem test_VS6_rol_acc :
    after (load 0x0600 [0x2A] [] { State.reset with a := 0x80, p := 0x01 })
      (fun t => (t.a, t.p)) = some (0x01, 0x01) := by decide

/-- VS8. -/
theorem test_VS8_rol_zpx :
    after (load 0x0600 [0x36, 0x10] [(0x0011, 0xFF)] { State.reset with x := 0x01, p := 0x01 })
      (fun t => (t.memRead 0x0011, t.p)) = some (0xFF, 0x81) := by decide

/-- VS9. -/
theorem test_VS9_ror_acc :
    after (load 0x0600 [0x6A] [] { State.reset with a := 0x01, p := 0x01 })
      (fun t => (t.a, t.p)) = some (0x80, 0x81) := by decide

/-- VS11. -/
theorem test_VS11_ror_abx :
    after (load 0x0600 [0x7E, 0x00, 0x02] [(0x0202, 0x00)] { State.reset with x := 0x02, p := 0x01 })
      (fun t => (t.memRead 0x0202, t.p)) = some (0x80, 0x80) := by decide

/-- VM3. -/
theorem test_VM3_adc_carry_in_overflows :
    after (load 0x0600 [0x69, 0x00] [] { State.reset with a := 0x7F, p := 0x01 })
      (fun t => (t.a, t.p)) = some (0x80, 0xC0) := by decide

/-- VM7. -/
theorem test_VM7_adc_decimal_raises :
    after (load 0x0600 [0x69, 0x01] [] { State.reset with a := 0x09, p := 0x08 })
      (fun t => (t.a, t.p, t.pc, t.report)) =
      some (0x09, 0x08, 0x0602, some (.unimplementedSemantics .decimal)) := by decide

/-- VM9. -/
theorem test_VM9_sbc_borrow_in :
    after (load 0x0600 [0xE9, 0x01] [] { State.reset with a := 0x00, p := 0x00 })
      (fun t => (t.a, t.p)) = some (0xFE, 0x80) := by decide

/-- VM11. -/
theorem test_VM11_sbc_overflow :
    after (load 0x0600 [0xE9, 0xFF] [] { State.reset with a := 0x7F, p := 0x01 })
      (fun t => (t.a, t.p)) = some (0x80, 0xC0) := by decide

/-- VM16. -/
theorem test_VM16_cmp_n_from_difference :
    after (load 0x0600 [0xC9, 0x01] [] { State.reset with a := 0x80, p := 0x40 })
      (fun t => (t.a, t.p)) = some (0x80, 0x41) := by decide

/-- VM21. -/
theorem test_VM21_cmp_ignores_decimal :
    after (load 0x0600 [0xC9, 0x10] [] { State.reset with a := 0x10, p := 0x08 })
      (fun t => (t.p, t.report)) = some (0x0B, none) := by decide

/-- VM19. -/
theorem test_VM19_cpx :
    after (load 0x0600 [0xE4, 0x10] [(0x0010, 0x1F)] { State.reset with x := 0x20 })
      (fun t => (t.x, t.p)) = some (0x20, 0x01) := by decide

/-- VM20. -/
theorem test_VM20_cpy :
    after (load 0x0600 [0xC0, 0x80] [] { State.reset with y := 0x7F })
      (fun t => (t.y, t.p)) = some (0x7F, 0x80) := by decide

/-- VM22. -/
theorem test_VM22_bit_zp :
    after (load 0x0600 [0x24, 0x10] [(0x0010, 0xC0)] { State.reset with a := 0x0F })
      (fun t => (t.a, t.p)) = some (0x0F, 0xC2) := by decide

/-- VM24. -/
theorem test_VM24_bit_abs :
    after (load 0x0600 [0x2C, 0x34, 0x12] [(0x1234, 0x40)] { State.reset with a := 0xFF })
      (fun t => (t.p, t.pc)) = some (0x40, 0x0603) := by decide

/-- VK2. -/
theorem test_VK2_pha_wraps :
    after (load 0x0600 [0x48] [] { State.reset with a := 0x42, sp := 0x00 })
      (fun t => (t.memRead 0x0100, t.sp)) = some (0x42, 0xFF) := by decide

/-- VK3. -/
theorem test_VK3_php_forces_bit_4_only :
    after (load 0x0600 [0x08] [] State.reset)
      (fun t => (t.memRead 0x01FD, t.p)) = some (0x10, 0x00) := by decide

/-- VK4. -/
theorem test_VK4_php_leaves_p :
    after (load 0x0600 [0x08] [] { State.reset with p := 0xEF })
      (fun t => (t.memRead 0x01FD, t.p)) = some (0xFF, 0xEF) := by decide

/-- VK6. -/
theorem test_VK6_pla_wraps :
    after (load 0x0600 [0x68] [(0x0100, 0x00)] { State.reset with a := 0x11, sp := 0xFF })
      (fun t => (t.a, t.sp, t.p)) = some (0x00, 0x00, 0x02) := by decide

/-- VK7. -/
theorem test_VK7_plp_loads_all_bits :
    after (load 0x0600 [0x28] [(0x01FD, 0xFF)] { State.reset with sp := 0xFC })
      (fun t => (t.p, t.sp)) = some (0xFF, 0xFD) := by decide

/-- VC1. -/
theorem test_VC1_jmp_abs :
    after (load 0x0600 [0x4C, 0x34, 0x12] [] State.reset)
      (fun t => (t.pc, t.p)) = some (0x1234, 0x00) := by decide

/-- VA16. -/
theorem test_VA16_jmp_ind_stays_in_page :
    after (load 0x0600 [0x6C, 0xFF, 0x10] [(0x1000, 0x12), (0x10FF, 0x34), (0x1100, 0x99)] State.reset)
      (fun t => t.pc) = some 0x1234 := by decide

/-- VC2. -/
theorem test_VC2_jsr :
    after (load 0x0836 [0x20, 0x00, 0x09] [] State.reset)
      (fun t => (t.pc, t.sp, t.memRead 0x01FD, t.memRead 0x01FC)) = some (0x0900, 0xFB, 0x08, 0x38) := by decide

/-- VC6. -/
theorem test_VC6_jsr_wraps :
    after (load 0x0600 [0x20, 0x00, 0x09] [] { State.reset with sp := 0x00 })
      (fun t => (t.sp, t.memRead 0x0100, t.memRead 0x01FF)) = some (0xFE, 0x06, 0x02) := by decide

/-- VC5. -/
theorem test_VC5_rts_wraps :
    after (load 0x0600 [0x60] [(0x0100, 0xFF), (0x01FF, 0xFF)] { State.reset with sp := 0xFE })
      (fun t => (t.pc, t.sp)) = some (0x0000, 0x00) := by decide

/-- VC3. -/
theorem test_VC3_rts :
    after (load 0x0900 [0x60] [(0x01FC, 0x38), (0x01FD, 0x08)] { State.reset with sp := 0xFB })
      (fun t => (t.pc, t.sp)) = some (0x0839, 0xFD) := by decide

/-- VC10. -/
theorem test_VC10_bpl_largest_forward :
    after (load 0x0600 [0x10, 0x7F] [] State.reset)
      (fun t => t.pc) = some 0x0681 := by decide

/-- VC11. -/
theorem test_VC11_bmi_largest_backward :
    after (load 0x0600 [0x30, 0x80] [] { State.reset with p := 0x80 })
      (fun t => t.pc) = some 0x0582 := by decide

/-- VC12. -/
theorem test_VC12_bmi_not_taken :
    after (load 0x0600 [0x30, 0x80] [] State.reset)
      (fun t => t.pc) = some 0x0602 := by decide

/-- VC13. -/
theorem test_VC13_bvc_to_self :
    after (load 0x0600 [0x50, 0xFE] [] State.reset)
      (fun t => t.pc) = some 0x0600 := by decide

/-- VC14. -/
theorem test_VC14_bvs :
    after (load 0x0600 [0x70, 0x10] [] { State.reset with p := 0x40 })
      (fun t => (t.pc, t.p)) = some (0x0612, 0x40) := by decide

/-- VC15. -/
theorem test_VC15_bcc_not_taken :
    after (load 0x0600 [0x90, 0x10] [] { State.reset with p := 0x01 })
      (fun t => t.pc) = some 0x0602 := by decide

/-- VC18. -/
theorem test_VC18_bcc_wraps_backward :
    after (load 0x0000 [0x90, 0x80] [] State.reset)
      (fun t => t.pc) = some 0xFF82 := by decide

/-- VC16. -/
theorem test_VC16_bcs :
    after (load 0x0600 [0xB0, 0x10] [] { State.reset with p := 0x01 })
      (fun t => t.pc) = some 0x0612 := by decide

/-- VC7. -/
theorem test_VC7_bne :
    after (load 0x0832 [0xD0, 0xFD] [] State.reset)
      (fun t => t.pc) = some 0x0831 := by decide

/-- VC8. -/
theorem test_VC8_bne_not_taken :
    after (load 0x0832 [0xD0, 0xFD] [] { State.reset with p := 0x02 })
      (fun t => t.pc) = some 0x0834 := by decide

/-- VC9. -/
theorem test_VC9_beq :
    after (load 0x0600 [0xF0, 0x02] [] { State.reset with p := 0x02 })
      (fun t => (t.pc, t.p)) = some (0x0604, 0x02) := by decide

/-- VF1. -/
theorem test_VF1_clc :
    after (load 0x0600 [0x18] [] { State.reset with p := 0xFF })
      (fun t => t.p) = some 0xFE := by decide

/-- VF2. -/
theorem test_VF2_sec :
    after (load 0x0600 [0x38] [] State.reset)
      (fun t => t.p) = some 0x01 := by decide

/-- VF3. -/
theorem test_VF3_cli :
    after (load 0x0600 [0x58] [] { State.reset with p := 0xFF })
      (fun t => t.p) = some 0xFB := by decide

/-- VF4. -/
theorem test_VF4_sei :
    after (load 0x0600 [0x78] [] State.reset)
      (fun t => t.p) = some 0x04 := by decide

/-- VF5. -/
theorem test_VF5_clv :
    after (load 0x0600 [0xB8] [] { State.reset with p := 0xFF })
      (fun t => t.p) = some 0xBF := by decide

/-- VF6. -/
theorem test_VF6_cld :
    after (load 0x0600 [0xD8] [] { State.reset with p := 0xFF })
      (fun t => t.p) = some 0xF7 := by decide

/-- VF7. -/
theorem test_VF7_sed :
    after (load 0x0600 [0xF8] [] State.reset)
      (fun t => t.p) = some 0x08 := by decide

/-- VF8. -/
theorem test_VF8_nop :
    after (load 0x0600 [0xEA] [] { State.reset with a := 0x01, x := 0x02, y := 0x03, p := 0xA5 })
      (fun t => (t.p, t.pc)) = some (0xA5, 0x0601) := by decide

/-- VF9. -/
theorem test_VF9_nop_pc_wraps :
    after (load 0xFFFF [0xEA] [] State.reset)
      (fun t => t.pc) = some 0x0000 := by decide

/-- VF10. -/
theorem test_VF10_brk_raises :
    after (load 0x0600 [0x00] [] State.reset)
      (fun t => (t.pc, t.sp, t.report)) = some (0x0601, 0xFD, some (.unimplementedSemantics .brk)) := by decide

/-- VF11. -/
theorem test_VF11_rti_raises :
    after (load 0x0600 [0x40] [] { State.reset with sp := 0xFA })
      (fun t => (t.pc, t.sp, t.report)) = some (0x0601, 0xFA, some (.unimplementedSemantics .rti)) := by decide

/-- VF14. -/
theorem test_VF14_illegal_eb :
    after (load 0x0600 [0xEB] [] State.reset)
      (fun t => (t.pc, t.report)) = some (0x0601, some (.unknownOpcode (.byte 0xEB))) := by decide

/-- VA11. -/
theorem test_VA11_izx_wraps_in_page_zero :
    after (load 0x0600 [0xA1, 0xFF] [(0x0000, 0x00), (0x0001, 0x30), (0x3000, 0xCD)] { State.reset with x := 0x01 })
      (fun t => t.a) = some 0xCD := by decide

/-- VA14. -/
theorem test_VA14_izy_wraps_at_the_top :
    after (load 0x0600 [0xB1, 0xFF] [(0x0000, 0xFF), (0x00FF, 0xFF)] { State.reset with y := 0x01 })
      (fun t => (t.a, t.p)) = some (0xFF, 0x80) := by decide

/-! Witnesses: for each obligation with hypotheses, a concrete state and operands that meet all of them together. -/

/-- Every constructor's mnemonic is the one its row of the matrix names: the premise `mnemonicOf i = …` of the completion
statements is met by each of the 151 constructors. -/
theorem witness_mnemonic_of_every_constructor :
    opcodeTable.all (fun row => mnemonicOf (row.build 0x34 0x12) == row.mnemonic) = true := by decide

theorem witness_EncodeInvertsDecode : decode [0xB5, 0x10, 0xEA] = .ok (.ldaZpx 0x10, [0xEA]) := rfl

/-- At the top of memory: the operand byte is that of address 0x0000. -/
theorem witness_StepRunsDecodedInstruction :
    ∀ k b, (encode (.ldaImm 0x42))[k]? = some b →
      (load 0xFFFF [0xA9, 0x42] [] State.reset).memRead
        ((load 0xFFFF [0xA9, 0x42] [] State.reset).pc + BitVec.ofNat 16 k) = b
  | 0, _, h => by cases h; decide
  | 1, _, h => by cases h; decide
  | _ + 2, _, h => by cases h

theorem witness_OpcodeByteDeterminesLength : (0x02 ∈ illegalOpcodes) ∧ (0xFF ∈ illegalOpcodes) := by decide

theorem witness_IllegalOpcodeStep :
    ((load 0x0600 [0xFF] [] State.reset).memRead 0x0600 ∈ illegalOpcodes) ∧
    ((load 0x0600 [0xFE] [] State.reset).memRead 0x0600 ∉ illegalOpcodes) := by decide

theorem witness_PcAdvancesByLength :
    mnemonicOf (.incAbx 0xFF 0xFF) ∉ [.jmp, .jsr, .rts, .bpl, .bmi, .bvc, .bvs, .bcc, .bcs, .bne, .beq] ∧
    mnemonicOf .brk ∉ [.jmp, .jsr, .rts, .bpl, .bmi, .bvc, .bvs, .bcc, .bcs, .bne, .beq] := by decide

theorem witness_OperandReadAndWriteByMode :
    Operand.acc.mode = .acc ∧ Operand.imp.mode = .imp ∧ (Operand.rel 0x80).mode = .rel ∧
    (Operand.imm 0x81).mode ∈ [.acc, .imm, .imp, .rel] ∧ (Operand.izy 0xFF).mode ∉ [.acc, .imm, .imp, .rel] := by decide

theorem witness_SingleResolutionIsTwoResolutions :
    readOperand (.zpx 0xFF) (load 0x0600 [] [(0x0101, 0x44)] { State.reset with x := 0x02 }) = .ok 0x44 ∧
    readOperand .acc { State.reset with a := 0x81 } = .ok 0x81 := ⟨rfl, rfl⟩

theorem witness_LoadsCompleteInEveryForm :
    mnemonicOf (.ldaIzy 0xFF) = .lda ∧ mnemonicOf (.ldxZpy 0xF0) = .ldx ∧ mnemonicOf (.ldyAbx 0xFF 0xFF) = .ldy := by
  decide

theorem witness_StoresCompleteInEveryForm :
    mnemonicOf (.staIzx 0xFF) = .sta ∧ mnemonicOf (.stxZpy 0xFF) = .stx ∧ mnemonicOf (.styAbs 0xFF 0xFF) = .sty := by
  decide

theorem witness_LogicalCompletesInEveryForm :
    mnemonicOf (.andImm 0x00) = .and ∧ mnemonicOf (.oraAby 0xFF 0xFF) = .ora ∧ mnemonicOf (.eorIzx 0xFF) = .eor := by
  decide

theorem witness_MemoryIncDecCompletesInEveryForm :
    mnemonicOf (.incZpx 0xFF) = .inc ∧ mnemonicOf (.decAbx 0xFF 0xFF) = .dec := by decide

theorem witness_ShiftsCompleteInEveryForm :
    mnemonicOf .aslAcc ∈ [.asl, .lsr, .rol, .ror] ∧ mnemonicOf (.lsrZp 0x00) ∈ [.asl, .lsr, .rol, .ror] ∧
    mnemonicOf (.rolAbx 0xFF 0xFF) ∈ [.asl, .lsr, .rol, .ror] ∧ mnemonicOf .rorAcc ∈ [.asl, .lsr, .rol, .ror] := by
  decide

theorem witness_AddWithCarryCompletesInEveryForm :
    mnemonicOf (.adcIzy 0xFF) = .adc ∧ flagIn ({ State.reset with p := 0xF7 } : State).p .D = false ∧
    flagIn ({ State.reset with p := 0x08 } : State).p .D = true := by decide

theorem witness_SubtractWithBorrowCompletesInEveryForm :
    mnemonicOf (.sbcImm 0xFF) = .sbc ∧ flagIn ({ State.reset with p := 0xF7 } : State).p .D = false ∧
    flagIn ({ State.reset with p := 0x08 } : State).p .D = true := by decide

theorem witness_DecimalModeRaisesOnlyInAddAndSubtract :
    (mnemonicOf (.adcImm 0x01) ∈ [.adc, .sbc] ∧ mnemonicOf (.sbcZp 0x10) ∈ [.adc, .sbc] ∧
      flagIn ({ State.reset with p := 0x08 } : State).p .D = true) ∧
    mnemonicOf (.cmpImm 0x10) ∉ [.adc, .sbc, .php, .plp, .cld, .sed] ∧
    mnemonicOf .sed ∈ [.plp, .cld, .sed] ∧
    (∃ t, exec (.cmpImm 0x10) { State.reset with p := 0x08 } = .next t) ∧
    (∃ t, exec .sed { State.reset with p := 0x08 } = .next t) ∧
    (∃ t, exec .php { State.reset with p := 0x08 } = .next t) :=
  ⟨by decide, by decide, by decide, ⟨_, rfl⟩, ⟨_, rfl⟩, ⟨_, rfl⟩⟩

theorem witness_ComparesCompleteInEveryForm :
    (mnemonicOf (.cmpIzx 0xFF) = .cmp ∧ State.reset.a = State.reset.a) ∧
    (mnemonicOf (.cpxAbs 0xFF 0xFF) = .cpx ∧ State.reset.x = State.reset.x) ∧
    (mnemonicOf (.cpyImm 0x80) = .cpy ∧ State.reset.y = State.reset.y) := by decide

theorem witness_BitTestCompletesInEveryForm :
    mnemonicOf (.bitZp 0x10) = .bit ∧ mnemonicOf (.bitAbs 0x34 0x12) = .bit := by decide

/-- A call with the stack at its wrap, and a subroutine that changed `A` and stands elsewhere. -/
theorem witness_ReturnGoesBehindTheCall :
    ∃ t v : State, exec (.jsr 0x00 0x09) { State.reset with sp := 0x00, pc := 0x0600 } = .next t ∧ v.sp = t.sp ∧
      v.memRead (stackAddress 0x00) = t.memRead (stackAddress 0x00) ∧
      v.memRead (stackAddress (0x00 - 1)) = t.memRead (stackAddress (0x00 - 1)) ∧ v.a ≠ t.a ∧ v.pc ≠ t.pc :=
  ⟨_, load 0x0910 [] [(0x0100, 0x06), (0x01FF, 0x02)] { State.reset with a := 0x55, sp := 0xFE }, rfl, by decide⟩

/-- A backward branch from the bottom of memory. -/
theorem witness_BranchesComplete :
    (0xFF82 : Addr) = BitVec.ofInt 16 ((0x0000 : Addr).toNat + 2 + (0x80 : Byte).toInt) ∧
    (0x0002 : Addr) = BitVec.ofNat 16 ((0x0000 : Addr).toNat + 2) := by decide

/-- An instruction of each kind completes or raises from the reset state, and a decimal ADC raises. -/
theorem witness_OnlyUnimplementedSemanticsAreRaised :
    (∃ t, exec (.ldaImm 0x42) State.reset = .next t) ∧ (∃ t, exec .brk State.reset = .next t) ∧
    (∃ t, exec .rti State.reset = .next t) ∧ (∃ t, exec (.adcImm 0x01) { State.reset with p := 0x08 } = .next t) :=
  ⟨⟨_, rfl⟩, ⟨_, rfl⟩, ⟨_, rfl⟩, ⟨_, rfl⟩⟩

theorem witness_RaisingStepIsNoOp :
    (∃ t, t.report = some (.unimplementedSemantics .decimal) ∧
      step (load 0x0600 [0x69, 0x01] [] { State.reset with p := 0x08 }) = .next t) ∧
    (∃ t, t.report = some (.invalidAddressForMode .imm) ∧
      executeRecord ⟨.known .sta, .imm, some 0x12, none, 2⟩ State.reset = .next t) := ⟨⟨_, rfl, rfl⟩, ⟨_, rfl, rfl⟩⟩

theorem witness_DiagIsSticky :
    (∃ t, step (load 0x0600 [0x02] [] { State.reset with diag := .unimplementedSemantics }) = .next t) ∧
    (∃ t, step (load 0x0600 [0x02] [] State.reset) = .next t ∧ t.diag = .unknownOpcode) ∧
    (∃ t, executeRecord ⟨.known .lda, .imp, none, none, 1⟩ State.reset = .next t ∧ t.diag = .invalidAddressForMode) :=
  ⟨⟨_, rfl⟩, ⟨_, rfl, rfl⟩, ⟨_, rfl, rfl⟩⟩

/-- A pulled byte other than the pushed one. -/
theorem witness_PhpThenPlpRestoresFlags :
    ∃ t v : State, exec .php { State.reset with sp := 0x00, p := 0xEF } = .next t ∧ v.sp = t.sp ∧
      v.memRead (stackAddress 0x00) = 0x3C :=
  ⟨_, load 0x0600 [] [(0x0100, 0x3C)] { State.reset with sp := 0xFF }, rfl, rfl, rfl⟩

theorem witness_DirectAndIndexedAddresses :
    (Operand.zpy 0xFF).mode ∈ [.zp, .zpx, .zpy, .abs, .abx, .aby] ∧
    (Operand.abx 0xFF 0xFF).mode ∈ [.zp, .zpx, .zpy, .abs, .abx, .aby] := by decide

theorem witness_RegisterFrame :
    (∃ t, exec (.cmpImm 0xFF) State.reset = .next t) ∧
    mnemonicOf (.cmpImm 0xFF) ∉ [.lda, .and, .ora, .eor, .adc, .sbc, .pla, .txa, .tya] ∧
    operandOf (.cmpImm 0xFF) ≠ .acc ∧ mnemonicOf (.cmpImm 0xFF) ∉ [.ldx, .tax, .tsx, .inx, .dex] ∧
    mnemonicOf (.cmpImm 0xFF) ∉ [.ldy, .tay, .iny, .dey] ∧
    mnemonicOf (.cmpImm 0xFF) ∉ [.pha, .php, .pla, .plp, .jsr, .rts, .txs] := ⟨⟨_, rfl⟩, by decide⟩

theorem witness_FlagFrame :
    (∃ t, exec (.staAbs 0xFF 0x01) { State.reset with p := 0xFF } = .next t) ∧
    mnemonicOf (.staAbs 0xFF 0x01) ∉ [.lda, .ldx, .ldy, .tax, .tay, .txa, .tya, .tsx, .txs, .and, .ora, .eor, .inc,
      .dec, .inx, .iny, .dex, .dey, .asl, .lsr, .rol, .ror, .adc, .sbc, .cmp, .cpx, .cpy, .bit, .pla, .plp] ∧
    mnemonicOf (.staAbs 0xFF 0x01) ∉ [.adc, .sbc, .bit, .clv, .plp] ∧
    mnemonicOf (.staAbs 0xFF 0x01) ∉ [.sed, .cld, .plp] ∧ mnemonicOf (.staAbs 0xFF 0x01) ∉ [.sei, .cli, .plp] ∧
    mnemonicOf (.staAbs 0xFF 0x01) ∉ [.adc, .sbc, .cmp, .cpx, .cpy, .asl, .lsr, .rol, .ror, .sec, .clc, .plp] :=
  ⟨⟨_, rfl⟩, by decide⟩

/-- A load, and a shift of the accumulator. -/
theorem witness_NonStoringFormsKeepMemory :
    (∃ t, exec .rorAcc State.reset = .next t) ∧
    mnemonicOf .rorAcc ∉ [.sta, .stx, .sty, .inc, .dec, .pha, .php, .jsr] ∧
    mnemonicOf .rorAcc ∈ [.asl, .lsr, .rol, .ror] ∧ operandOf .rorAcc = .acc ∧
    (∃ t, exec (.ldaZp 0x10) State.reset = .next t) ∧
    mnemonicOf (.ldaZp 0x10) ∉ [.sta, .stx, .sty, .inc, .dec, .pha, .php, .jsr, .asl, .lsr, .rol, .ror] :=
  ⟨⟨_, rfl⟩, by decide, by decide, rfl, ⟨_, rfl⟩, by decide⟩

/-- A store whose effective address wraps, a push at the bottom of the stack, and a call there. -/
theorem witness_StoringFormsKeepOtherMemory :
    (∃ t, exec (.staAbx 0xFF 0xFF) { State.reset with x := 0x01 } = .next t) ∧
    mnemonicOf (.staAbx 0xFF 0xFF) ∈ [.sta, .stx, .sty, .inc, .dec, .asl, .lsr, .rol, .ror] ∧
    resolveAddress (.abx 0xFF 0xFF) (({ State.reset with x := 0x01 } : State).past (.staAbx 0xFF 0xFF)) = .ok 0x0000 ∧
    (∃ t, exec .php { State.reset with sp := 0x00 } = .next t) ∧ mnemonicOf .php ∈ [.pha, .php] ∧
    (0x01FF : Addr) ≠ stackAddress 0x00 ∧
    (∃ t, exec (.jsr 0x00 0x09) { State.reset with sp := 0x00 } = .next t) ∧ mnemonicOf (.jsr 0x00 0x09) = .jsr ∧
    (0x0101 : Addr) ≠ stackAddress 0x00 ∧ (0x0101 : Addr) ≠ stackAddress (0x00 - 1) :=
  ⟨⟨_, rfl⟩, by decide, rfl, ⟨_, rfl⟩, by decide, by decide, ⟨_, rfl⟩, by decide⟩

/-- Two memories written in different orders. -/
theorem witness_CanonicalMemoriesAreEqual :
    (((Memory.mk []).write 0x0200 0x99).write 0xFFFF 0x01).wf = true ∧
    (((Memory.mk []).write 0xFFFF 0x01).write 0x0200 0x99).wf = true ∧
    ∀ addr, (((Memory.mk []).write 0x0200 0x99).write 0xFFFF 0x01).read addr =
      (((Memory.mk []).write 0xFFFF 0x01).write 0x0200 0x99).read addr :=
  ⟨by decide, by decide, fun _ => rfl⟩

theorem witness_InvHoldsAtReset : (Memory.mk [(0x0000, 0x42), (0xFFFF, 0x01)]).wf = true := by decide

/-- An illegal byte from the reset registers, with a byte listed in memory. -/
theorem witness_StepKeepsInv :
    ∃ s t : State, s.Inv ∧ step s = .next t ∧ t.report = some (.unknownOpcode (.byte 0x02)) :=
  ⟨load 0x0600 [0x02] [] State.reset, _, ⟨by decide, by decide⟩, rfl, rfl⟩

/-- A step, a record and a poke; and a step and a record after a diagnostic. -/
theorem witness_HistoriesKeepInvAndDiag :
    (∃ s t, runEvents [.step, .record ⟨.known .nop, .imp, none, none, 1⟩, .host (.poke 0x0200 0x99)] s = .next t ∧
      s.Inv) ∧
    (∃ s t, runEvents [.step, .record ⟨.known .nop, .imp, none, none, 1⟩] s = .next t ∧
      (∀ action, Event.host action ∉ [Event.step, .record ⟨.known .nop, .imp, none, none, 1⟩]) ∧ s.diag ≠ .none) :=
  ⟨⟨load 0x0600 [0xA9, 0x42] [] State.reset, _, rfl, by decide, by decide⟩,
    ⟨load 0x0600 [0xA9, 0x42] [] { State.reset with diag := .unknownOpcode }, _, rfl, by simp, by decide⟩⟩

theorem witness_PokeChangesOneByte : (0x0001 : Addr) ≠ 0x0000 ∧ (0xFFFF : Addr) ≠ 0x0000 := by decide

/-- The four settings of the two inputs, and the four values of the output `diag`. -/
theorem witness_BlockTransactions :
    (∀ r : Record, (Inputs.mk true true r).reset = true ∧
      ((Inputs.mk false true r).reset = false ∧ (Inputs.mk false true r).step = true) ∧
      ((Inputs.mk false false r).reset = false ∧ (Inputs.mk false false r).step = false)) ∧
    [outputs State.reset, outputs (State.reset.raise (.unknownOpcode (.byte 0x02))),
      outputs (State.reset.raise (.invalidAddressForMode .imm)),
      outputs (State.reset.raise (.unimplementedSemantics .rti))].map (fun o => o.diag) = [0, 1, 2, 3] :=
  ⟨fun _ => ⟨rfl, ⟨rfl, rfl⟩, ⟨rfl, rfl⟩⟩, by decide⟩

theorem witness_UnknownMnemonicIsReportedNoOp :
    (Record.mk (.unknown "XYZ") .imp none none 1).opcode = .unknown "XYZ" ∧
    1 ≤ (Record.mk (.unknown "XYZ") .imp none none 1).length ∧
    (Record.mk (.unknown "XYZ") .abs (some 0x34) (some 0x12) 3).length ≤ 3 := by decide

/-- A record of kind (a) of each group of mnemonics, and ADC in decimal mode among them. -/
theorem witness_IllFormedRecords :
    ([⟨.known .lda, .imp, none, none, 1⟩, ⟨.known .adc, .rel, some 0x01, none, 2⟩, ⟨.known .jsr, .acc, none, none, 1⟩,
      ⟨.known .ror, .imm, some 0x81, none, 2⟩] : List Record).all (fun r => r.operandBytesFit && r.lengthFits) = true ∧
    Mnemonic.lda ∈ [.lda, .ldx, .ldy, .and, .ora, .eor, .adc, .sbc, .cmp, .cpx, .cpy, .bit] ∧ Mode.imp ∈ [.imp, .rel] ∧
    Mnemonic.jsr ∈ [.sta, .stx, .sty, .jmp, .jsr] ∧ Mode.acc ∈ [.acc, .imm, .imp, .rel] ∧
    Mnemonic.ror ∈ [.asl, .lsr, .rol, .ror, .inc, .dec] ∧ Mode.imm ∈ [.imm, .imp, .rel] := by decide

theorem witness_FetchReadsExactlyTheInstruction :
    fetchInstr (load 0xFFFF [0xAD, 0x34, 0x12] [] State.reset) = .ok (.ldaAbs 0x34 0x12) ∧
    fetchInstr (load 0xFFFF [0x02] [] State.reset) = .error 0x02 := ⟨rfl, rfl⟩

theorem witness_BusWritesAreTheMemoryChange :
    ∃ t, exec (.rolZpx 0x10) { State.reset with x := 0x01, p := 0x01 } = .next t ∧ t.mem ≠ State.reset.mem :=
  ⟨_, rfl, by decide⟩

/-- Another memory that agrees at the one address the instruction reads. -/
theorem witness_OnlyListedReadsMatter :
    ∃ (s t : State) (m : Memory), exec (.ldaZp 0x10) s = .next t ∧ m ≠ s.mem ∧
      ∀ acc ∈ instrAccesses (.ldaZp 0x10) s, acc.we = false → m.read acc.addr = acc.data :=
  ⟨load 0x0600 [] [(0x0010, 0x33)] State.reset, _, ⟨[(0x0010, 0x33), (0x0200, 0x99)]⟩, rfl, by decide, by decide⟩

/-- Premises of each group: a store through a pointer, a read-modify-write, an immediate form, ADC in both modes, and the
instructions that make stack accesses or none. -/
theorem witness_TransactionsOfEachInstruction :
    mnemonicOf (.staIzy 0xFF) ∈ [.sta, .stx, .sty] ∧
    (mnemonicOf (.rolZpx 0x10) ∈ [.inc, .dec, .asl, .lsr, .rol, .ror] ∧ (operandOf (.rolZpx 0x10)).mode ≠ .acc) ∧
    (operandOf .rorAcc).mode = .acc ∧ (operandOf (.ldaImm 0x42)).mode = .imm ∧
    (mnemonicOf (.adcIzx 0xFF) ∈ [.adc, .sbc] ∧ (operandOf (.adcIzx 0xFF)).mode ≠ .imm ∧
      flagIn State.reset.p .D = false ∧ flagIn ({ State.reset with p := 0x08 } : State).p .D = true) ∧
    mnemonicOf (.jmpInd 0xFF 0x10) = .jmp ∧ mnemonicOf (.jsr 0x00 0x09) = .jsr ∧ mnemonicOf .rts = .rts ∧
    mnemonicOf .php ∈ [.pha, .php] ∧ mnemonicOf .plp ∈ [.pla, .plp] ∧
    (Operand.abx 0xFF 0xFF).mode ∉ [.ind, .izx, .izy] ∧
    (⟨0x0011, false, 0xFF⟩ : BusAccess) ∈
      instrAccesses (.rolZpx 0x10) (load 0x0600 [] [(0x0011, 0xFF)] { State.reset with x := 0x01 }) ∧
    mnemonicOf .brk ∈ [.tax, .tay, .txa, .tya, .tsx, .txs, .inx, .iny, .dex, .dey, .bpl, .bmi, .bvc, .bvs, .bcc, .bcs,
      .bne, .beq, .clc, .sec, .cli, .sei, .clv, .cld, .sed, .nop, .brk, .rti] := by decide

end Sys2Proof.Tests
end

section
/-! The bits of a flag byte after one named bit is set, cleared or toggled (`10_state.md` R16), stated for every bit
index, and the layout of `P` that follows. -/

namespace Sys2Proof.Machine

theorem Flag.bit_lt (f : Flag) : f.bit < 8 := by cases f <;> decide

/-- A mask is a power of two, so it has exactly the bit of its flag. -/
@[simp] theorem Flag.getLsbD_mask (f : Flag) (k : Nat) : f.mask.getLsbD k = decide (f.bit = k) := by
  have hpow : f.mask = BitVec.twoPow 8 f.bit := rfl
  simp [hpow, BitVec.getLsbD_twoPow, f.bit_lt]

@[simp] theorem getLsbD_withFlag (f : Flag) (v : Bool) (p : Byte) (k : Nat) :
    (withFlag f v p).getLsbD k = if k = f.bit then v else p.getLsbD k := by
  by_cases hk : k = f.bit
  · subst hk
    cases v <;> simp [withFlag]
  · cases v
    · -- Clearing: past bit 7 the complemented mask reads false, and so does `p`.
      have hp : p.getLsbD k = true → k < 8 := BitVec.lt_of_getLsbD
      simpa [withFlag, hk, Ne.symm hk] using hp
    · simp [withFlag, hk, Ne.symm hk]

@[simp] theorem getLsbD_toggledFlag (f : Flag) (p : Byte) (k : Nat) :
    (toggledFlag f p).getLsbD k = if k = f.bit then !p.getLsbD k else p.getLsbD k := by
  by_cases hk : k = f.bit
  · simp [toggledFlag, hk]
  · simp [toggledFlag, hk, Ne.symm hk]

/-- Settles O15: the layout is the definition of `Flag.bit`; each operation acts through a mask with one bit set. -/
theorem flagByteLayout : Obligations.FlagByteLayout := by
  unfold Obligations.FlagByteLayout
  refine ⟨rfl, fun p => ⟨⟨rfl, rfl, rfl, rfl, rfl, rfl, rfl, rfl⟩, fun f v k => ?_⟩⟩
  exact ⟨getLsbD_withFlag f v p k, getLsbD_toggledFlag f p k⟩

end Sys2Proof.Machine
end

section
/-! A read of the host after a poke (`20_memory.md` R45), from the read laws of memory. -/

namespace Sys2Proof.Machine

theorem hostRead_poke_same (s : State) (addr : Addr) (v : Byte) : hostRead addr (hostAct (.poke addr v) s) = v :=
  s.mem.read_write_same addr v

theorem hostRead_poke_ne (s : State) (v : Byte) {addr other : Addr} (h : other ≠ addr) :
    hostRead other (hostAct (.poke addr v) s) = hostRead other s :=
  s.mem.read_write_ne v h

/-- Settles O52: a poke is one write of memory, and the read laws of memory say what the host reads after it. -/
theorem pokeChangesOneByte : Obligations.PokeChangesOneByte := by
  unfold Obligations.PokeChangesOneByte
  intro s addr v
  exact ⟨hostRead_poke_same s addr v, fun _ h => hostRead_poke_ne s v h, rfl⟩

end Sys2Proof.Machine
end

section
/-! The length of an encoded instruction (`30_encoding.md` R50), from its mode and from its opcode byte alone. -/

namespace Sys2Proof

/-- R47's length of a mode, with the modes grouped as R50 groups them. -/
theorem Mode.length_eq_ite (mode : Mode) :
    mode.length =
      if mode = .imp ∨ mode = .acc then 1
      else if mode = .abs ∨ mode = .abx ∨ mode = .aby ∨ mode = .ind then 3
      else 2 := by
  cases mode <;> rfl

theorem length_encode (i : Instr) : (encode i).length = lengthOf i := by
  simp [encode, lengthOf, Mode.length, length_bytes, Nat.add_comm]

theorem lengthOfOpcode_opcodeOf (i : Instr) : lengthOfOpcode (opcodeOf i) = lengthOf i := by
  obtain ⟨row, hrow, -, hmode, -⟩ := rowOf_opcodeOf i []
  simp [lengthOfOpcode, lengthOf, hrow, hmode]

end Sys2Proof
end

section
/-! The illegal opcode bytes (`30_encoding.md` R53): they are the bytes with no cell in the opcode map, so their length,
what the fetch answers and what the step does all follow from the map. -/

namespace Sys2Proof.Machine

/-- R53's list is the empty cells of R51's matrix, in rising order. -/
theorem illegalOpcodes_eq_filter :
    illegalOpcodes = ((List.range 256).map (BitVec.ofNat 8)).filter (fun opcode => (rowOf opcode).isNone) := by decide

theorem rowOf_eq_none_iff (opcode : Byte) : rowOf opcode = none ↔ opcode ∈ illegalOpcodes := by
  have hbyte : opcode ∈ (List.range 256).map (BitVec.ofNat 8) :=
    List.mem_map.2 ⟨opcode.toNat, List.mem_range.2 opcode.isLt, by simp⟩
  rw [illegalOpcodes_eq_filter, List.mem_filter, Option.isNone_iff_eq_none, and_iff_right hbyte]

theorem lengthOfOpcode_of_illegal {opcode : Byte} (h : opcode ∈ illegalOpcodes) : lengthOfOpcode opcode = 1 := by
  simp [lengthOfOpcode, (rowOf_eq_none_iff opcode).2 h, Config.illegalLength]

/-- Settles O4: the matrix's cell of the opcode byte has the instruction's mode, and an illegal byte has no cell. -/
theorem opcodeByteDeterminesLength : Obligations.OpcodeByteDeterminesLength := by
  unfold Obligations.OpcodeByteDeterminesLength
  refine ⟨fun i => ⟨?_, ?_⟩, fun _ h => lengthOfOpcode_of_illegal h⟩
  · rw [lengthOfOpcode_opcodeOf, length_encode]
  · rw [length_encode]
    exact (operandOf i).mode.length_eq_ite

@[simp] theorem fetchOpcode_eq (s : State) : fetchOpcode s = s.memRead s.pc := by
  simp [fetchOpcode, fetchAddress]

theorem fetchInstr_of_illegal {s : State} (h : s.memRead s.pc ∈ illegalOpcodes) :
    fetchInstr s = .error (s.memRead s.pc) := by
  have hrow : rowOf (s.memRead s.pc) = none := (rowOf_eq_none_iff _).2 h
  simp only [fetchInstr, fetchOpcode_eq, hrow]

theorem fetchInstr_of_legal {s : State} (h : s.memRead s.pc ∉ illegalOpcodes) : ∃ i, fetchInstr s = .ok i := by
  have hrow : rowOf (s.memRead s.pc) ≠ none := mt (rowOf_eq_none_iff _).1 h
  obtain ⟨row, hsome⟩ := Option.ne_none_iff_exists'.1 hrow
  simp only [fetchInstr, fetchOpcode_eq, hsome, Except.ok.injEq, exists_eq']

/-- The no-op of an illegal byte, field by field. -/
theorem runIllegal_eq (opcode : Byte) (s : State) :
    runIllegal opcode s =
      .next { s with pc := s.pc + 1, report := some (.unknownOpcode (.byte opcode)),
                     diag := if s.diag = .none then .unknownOpcode else s.diag } := rfl

/-- Settles O7: the opcode map decides whether the fetch gives an instruction or the byte, and the step follows it. -/
theorem illegalOpcodeStep : Obligations.IllegalOpcodeStep := by
  unfold Obligations.IllegalOpcodeStep
  refine ⟨rfl, fun s => ⟨fun h => ?_, fun h => ?_⟩⟩
  · rw [step_eq_runIllegal (fetchInstr_of_illegal h), runIllegal_eq]
  · obtain ⟨i, hi⟩ := fetchInstr_of_legal h
    exact ⟨i, hi, step_eq_exec hi⟩

end Sys2Proof.Machine
end

section
/-! Effective addresses as arithmetic (`40_addressing_and_operands.md` R59 to R67): the value of a word joined from two
bytes, the successor within its page, and the pointers read from page zero and from the operand's own page. -/

namespace Sys2Proof.Machine

@[simp] theorem toNat_joinBytes (h l : Byte) : (joinBytes h l).toNat = h.toNat * 256 + l.toNat := by
  rw [joinBytes, BitVec.toNat_ofNat]
  omega

theorem joinBytes_eq_append (h l : Byte) : joinBytes h l = h ++ l := by
  apply BitVec.eq_of_toNat_eq
  rw [toNat_joinBytes, BitVec.toNat_append, ← Nat.shiftLeft_add_eq_or_of_lt l.isLt, Nat.shiftLeft_eq]

@[simp] theorem setWidth_joinBytes (h l : Byte) : (joinBytes h l).setWidth 8 = l := by
  apply BitVec.eq_of_toNat_eq
  rw [BitVec.toNat_setWidth, toNat_joinBytes]
  omega

@[simp] theorem toNat_zext16 (b : Byte) : (zext16 b).toNat = b.toNat := by
  rw [zext16, BitVec.toNat_setWidth]
  omega

theorem zext16_eq_ofNat (b : Byte) : zext16 b = BitVec.ofNat 16 b.toNat := (BitVec.ofNat_toNat 16 b).symm

/-- The sum of two bytes fits in an address, so a zero-page index never wraps (R60, R61). -/
theorem toNat_zext16_add_zext16 (b c : Byte) : (zext16 b + zext16 c).toNat = b.toNat + c.toNat := by
  rw [BitVec.toNat_add, toNat_zext16, toNat_zext16]
  omega

theorem toNat_add_zext16 (w : Addr) (b : Byte) : (w + zext16 b).toNat = (w.toNat + b.toNat) % 65536 := by
  rw [BitVec.toNat_add, toNat_zext16]

@[simp] theorem toNat_operandWord (op1 op2 : Byte) : (operandWord op1 op2).toNat = op2.toNat * 256 + op1.toNat :=
  toNat_joinBytes op2 op1

theorem and_lowByteMask (w : Addr) : w &&& 0x00FF#16 = joinBytes 0#8 (w.setWidth 8) := by
  apply BitVec.eq_of_toNat_eq
  simpa using Nat.and_two_pow_sub_one_eq_mod w.toNat 8

theorem and_highByteMask_joinBytes (h l : Byte) : joinBytes h l &&& 0xFF00#16 = joinBytes h 0#8 := by
  have hmask : 0xFF00#16 = BitVec.allOnes 8 ++ 0#8 := rfl
  rw [hmask, joinBytes_eq_append, joinBytes_eq_append, BitVec.and_append, BitVec.and_allOnes, BitVec.and_zero]

theorem joinBytes_or_joinBytes (h l : Byte) : joinBytes h 0#8 ||| joinBytes 0#8 l = joinBytes h l := by
  rw [joinBytes_eq_append, joinBytes_eq_append, joinBytes_eq_append, BitVec.or_append, BitVec.or_zero, BitVec.zero_or]

/-- The increment within a page carries into no high byte (R65). -/
theorem samePageSucc_operandWord (op1 op2 : Byte) : samePageSucc (operandWord op1 op2) = operandWord (op1 + 1) op2 := by
  have hlow : (joinBytes op2 op1 + 1).setWidth 8 = op1 + 1 := by
    rw [BitVec.setWidth_add _ _ (by decide), setWidth_joinBytes]
    rfl
  rw [samePageSucc, operandWord, operandWord, and_highByteMask_joinBytes, and_lowByteMask, hlow, joinBytes_or_joinBytes]

theorem toNat_samePagePointer (op1 op2 : Byte) (s : State) :
    (samePagePointer (operandWord op1 op2) s).toNat =
      (s.memRead (BitVec.ofNat 16 (op2.toNat * 256 + (op1.toNat + 1) % 256))).toNat * 256 +
        (s.memRead (BitVec.ofNat 16 (op2.toNat * 256 + op1.toNat))).toNat := by
  rw [samePagePointer, toNat_joinBytes, samePageSucc_operandWord, operandWord, operandWord, joinBytes, joinBytes,
    BitVec.toNat_add]
  rfl

theorem toNat_zeroPagePointer (ptr : Byte) (s : State) :
    (zeroPagePointer ptr s).toNat =
      (s.memRead (BitVec.ofNat 16 ((ptr.toNat + 1) % 256))).toNat * 256 +
        (s.memRead (BitVec.ofNat 16 ptr.toNat)).toNat := by
  rw [zeroPagePointer, toNat_joinBytes, zext16_eq_ofNat, zext16_eq_ofNat, BitVec.toNat_add]
  rfl

theorem pointerReads_eq_nil {o : Operand} (s : State) (h : o.mode ∉ [.ind, .izx, .izy]) : pointerReads o s = [] := by
  cases o with
  | ind | izx | izy => simp [Operand.mode] at h
  | _ => rfl

/-- Settles O11: each address is a sum of the operand byte or word and an index register, taken in 16 bits. -/
theorem directAndIndexedAddresses : Obligations.DirectAndIndexedAddresses := by
  unfold Obligations.DirectAndIndexedAddresses
  intro op1 op2 s
  have hmodes : ∀ mode ∈ [Mode.zp, .zpx, .zpy, .abs, .abx, .aby], mode ∉ [.ind, .izx, .izy] := by decide
  refine ⟨⟨_, rfl, toNat_zext16 op1⟩, ⟨_, rfl, toNat_zext16_add_zext16 op1 s.x⟩,
    ⟨_, rfl, toNat_zext16_add_zext16 op1 s.y⟩, ⟨_, rfl, toNat_operandWord op1 op2⟩,
    ⟨_, rfl, ?_⟩, ⟨_, rfl, ?_⟩, fun o ho => pointerReads_eq_nil s (hmodes o.mode ho)⟩
  · rw [toNat_add_zext16, toNat_operandWord]
  · rw [toNat_add_zext16, toNat_operandWord]

/-- Settles O12: the two pointer reads of each mode, the index added to the pointer's address in IZX and to the pointer
read in IZY. -/
theorem pointerAddresses : Obligations.PointerAddresses := by
  unfold Obligations.PointerAddresses
  intro op1 op2 s
  refine ⟨⟨_, rfl, toNat_samePagePointer op1 op2 s⟩, ⟨_, rfl, ?_⟩, ⟨_, rfl, ?_⟩⟩
  · rw [toNat_zeroPagePointer, BitVec.toNat_add, Nat.mod_add_mod]
  · rw [toNat_add_zext16, toNat_zeroPagePointer]

end Sys2Proof.Machine
end

section
/-! Operand fetch and result store by mode (`40_addressing_and_operands.md` R69 to R71): but for the accumulator and the
embedded byte, both go through address resolution. -/

namespace Sys2Proof.Machine

theorem addressed_eq_false_iff {mode : Mode} : addressed mode = false ↔ mode ∈ [.acc, .imm, .imp, .rel] := by
  cases mode <;> decide

theorem readOperand_error {o : Operand} {s : State} (h : o.mode = .imp ∨ o.mode = .rel) :
    readOperand o s = .error (.invalidAddressForMode o.mode) := by
  cases o with
  | imp | rel => rfl
  | _ => simp [Operand.mode] at h

theorem writeResult_eq_map {o : Operand} (b : Byte) (s : State) (h : o.mode ≠ .acc) :
    writeResult b o s = (resolveAddress o s).map (fun ea => s.memWrite ea b) := by
  cases o with
  | acc => exact absurd rfl h
  | _ => rfl

theorem writeResult_error {o : Operand} (b : Byte) (s : State) (hacc : o.mode ≠ .acc) (h : addressed o.mode = false) :
    writeResult b o s = .error (.invalidAddressForMode o.mode) := by
  rw [writeResult_eq_map b s hacc, resolveAddress_error o s h]
  rfl

theorem writeResult_of_address {o : Operand} (b : Byte) {s : State} {ea : Addr} (h : resolveAddress o s = .ok ea) :
    writeResult b o s = .ok (s.memWrite ea b) := by
  have hacc : o.mode ≠ .acc := by
    intro hmode
    simp [resolveAddress_error o s (by simp [hmode, addressed])] at h
  rw [writeResult_eq_map b s hacc, h]
  rfl

/-- Settles O13: a mode either has an effective address, where the byte is read and written, or resolution raises. -/
theorem operandReadAndWriteByMode : Obligations.OperandReadAndWriteByMode := by
  unfold Obligations.OperandReadAndWriteByMode
  refine fun o b s => ⟨?acc, ?imm, ?none, ?unresolved, ?resolved⟩
  case acc =>
    intro h
    cases o with
    | acc => exact ⟨rfl, rfl⟩
    | _ => cases h
  case imm =>
    rintro op1 rfl
    exact ⟨rfl, rfl⟩
  case none =>
    intro h
    have hacc : o.mode ≠ .acc := by rcases h with h | h <;> simp [h]
    have haddr : addressed o.mode = false := by rcases h with h | h <;> simp [h, addressed]
    exact ⟨readOperand_error h, writeResult_error b s hacc haddr⟩
  case unresolved =>
    exact fun h => resolveAddress_error o s (addressed_eq_false_iff.2 h)
  case resolved =>
    intro h
    obtain ⟨ea, hea⟩ := resolveAddress_ok o s (Bool.of_not_eq_false (mt addressed_eq_false_iff.1 h))
    exact ⟨ea, hea, readOperand_of_address o s hea, writeResult_of_address b hea⟩

end Sys2Proof.Machine
end

section
/-! `UpdateNZ` (`41_load_store_transfer.md` R73) in the spelling of `NZSet`: the two flags it writes, as facts about the
value of the byte. -/

namespace Sys2Proof.Machine

theorem nzSet_nzByte (b p : Byte) : NZSet b p (nzByte b p) := by
  intro f
  have hN : b.msb = decide (128 ≤ b.toNat) := BitVec.msb_eq_decide b
  have hZ : (b == 0) = decide (b.toNat = 0) := Bool.eq_iff_iff.2 (by simp [BitVec.toNat_eq])
  rw [flagIn_nzByte, hN, hZ]

theorem NZSet.not_zero_and_negative {v p q : Byte} (h : NZSet v p q) : ¬ (flagIn q .Z = true ∧ flagIn q .N = true) := by
  rw [h .Z, h .N]
  simp only [reduceCtorEq, if_true, if_false, decide_eq_true_eq]
  omega

/-- Settles O16: the flag byte of `UpdateNZ` meets `NZSet`, and no byte is both 0 and at least 128. -/
theorem updateNZSetsTwoFlags : Obligations.UpdateNZSetsTwoFlags := by
  unfold Obligations.UpdateNZSetsTwoFlags
  intro s b
  have hnz : NZSet b s.p (s.updateNZ b).p := nzSet_nzByte b s.p
  exact ⟨hnz, rfl, hnz.not_zero_and_negative⟩

end Sys2Proof.Machine
end

section
/-! Completion of a whole step from what its handler answers (`48_dispatch_and_step.md` R143): an instruction's mode is
an admitted one, so where the admitted modes of a mnemonic all have an operand, or an address, its handler does not
raise. -/

namespace Sys2Proof.Machine

theorem admitted_mnemonicOf (i : Instr) : admitted (mnemonicOf i) (operandOf i).mode = true := by
  cases i <;> rfl

theorem mode_mem_admittedModes (i : Instr) : (operandOf i).mode ∈ admittedModes (mnemonicOf i) :=
  List.contains_iff_mem.1 (admitted_mnemonicOf i)

theorem exec_of_handler_ok {i : Instr} {s t : State}
    (h : handlerOf (mnemonicOf i) (operandOf i) (s.past i) = .ok t) : exec i s = .next t := by
  rw [exec_eq_runHandler]
  exact runHandler_ok h

variable {i : Instr} {m : Mnemonic}

/-- A mnemonic that goes on with its operand completes in each of its forms, when no admitted mode lacks an operand. -/
theorem exec_of_withOperand {k : Byte → State → State} (s : State) (hm : mnemonicOf i = m)
    (hhandler : handlerOf m = fun o => withOperand o k) (hmodes : .imp ∉ admittedModes m ∧ .rel ∉ admittedModes m) :
    ∃ v, readOperand (operandOf i) (s.past i) = .ok v ∧ exec i s = .next (k v (s.past i)) := by
  subst hm
  have hmode := mode_mem_admittedModes i
  obtain ⟨v, hv⟩ := readOperand_ok (operandOf i) (s.past i)
    (ne_of_mem_of_not_mem hmode hmodes.1) (ne_of_mem_of_not_mem hmode hmodes.2)
  refine ⟨v, hv, exec_of_handler_ok ?_⟩
  rw [hhandler]
  exact withOperand_ok hv

/-- A mnemonic's address resolves in each of its forms, when every admitted mode has an address. -/
theorem resolveAddress_of_admitted (s : State) (hm : mnemonicOf i = m)
    (hmodes : ∀ mode ∈ admittedModes m, addressed mode = true) : ∃ ea, resolveAddress (operandOf i) s = .ok ea := by
  subst hm
  exact resolveAddress_ok (operandOf i) s (hmodes _ (mode_mem_admittedModes i))

/-- A mnemonic that stores a register completes in each of its forms, when every admitted mode has an address. -/
theorem exec_of_storeByte {reg : State → Byte} (s : State) (hm : mnemonicOf i = m)
    (hhandler : handlerOf m = fun o u => storeByte (reg u) o u)
    (hmodes : ∀ mode ∈ admittedModes m, addressed mode = true) :
    ∃ ea, resolveAddress (operandOf i) (s.past i) = .ok ea ∧
      exec i s = .next ((s.past i).memWrite ea (reg (s.past i))) := by
  obtain ⟨ea, hea⟩ := resolveAddress_of_admitted (s.past i) hm hmodes
  refine ⟨ea, hea, exec_of_handler_ok ?_⟩
  rw [hm, hhandler]
  exact storeByte_ok hea

end Sys2Proof.Machine
end

section
/-! Loads, stores and register transfers (`41_load_store_transfer.md` R74 to R85): each completes, from the laws of the
shape its handler has. -/

namespace Sys2Proof.Machine

/-- A load into any register: `setReg` may write what it likes but the flag byte, which `UpdateNZ` then sets. -/
theorem exec_load {i : Instr} {m : Mnemonic} {setReg : Byte → State → State} (s : State) (hm : mnemonicOf i = m)
    (hhandler : handlerOf m = fun o => withOperand o (fun v u => (setReg v u).updateNZ v))
    (hmodes : .imp ∉ admittedModes m ∧ .rel ∉ admittedModes m) (hflags : ∀ v u, (setReg v u).p = u.p) :
    ∃ v t, readOperand (operandOf i) (s.past i) = .ok v ∧ exec i s = .next t ∧
      t = { setReg v (s.past i) with p := t.p } ∧ NZSet v s.p t.p := by
  obtain ⟨v, hread, hexec⟩ := exec_of_withOperand s hm hhandler hmodes
  refine ⟨v, _, hread, hexec, rfl, ?_⟩
  rw [State.updateNZ_p, hflags]
  exact nzSet_nzByte v s.p

/-- Settles O17: every admitted mode of a load has an operand, and the handler puts it in the register and updates N
and Z. -/
theorem loadsCompleteInEveryForm : Obligations.LoadsCompleteInEveryForm := by
  unfold Obligations.LoadsCompleteInEveryForm
  exact fun i s => ⟨fun hlda => exec_load (setReg := State.setA) s hlda rfl (by decide) (fun _ _ => rfl),
    fun hldx => exec_load (setReg := State.setX) s hldx rfl (by decide) (fun _ _ => rfl),
    fun hldy => exec_load (setReg := State.setY) s hldy rfl (by decide) (fun _ _ => rfl)⟩

/-- Settles O18: every admitted mode of a store has an address, and the handler is one write of memory there. -/
theorem storesCompleteInEveryForm : Obligations.StoresCompleteInEveryForm := by
  unfold Obligations.StoresCompleteInEveryForm
  exact fun i s => ⟨fun hsta => exec_of_storeByte (reg := State.a) s hsta rfl (by decide),
    fun hstx => exec_of_storeByte (reg := State.x) s hstx rfl (by decide),
    fun hsty => exec_of_storeByte (reg := State.y) s hsty rfl (by decide)⟩

/-- Settles O19: each handler of a transfer answers without a condition, TXS by the value of `TXS_UPDATES_NZ`. -/
theorem transfersComplete : Obligations.TransfersComplete := by
  unfold Obligations.TransfersComplete
  intro s
  exact ⟨⟨_, exec_of_handler_ok rfl, rfl, nzSet_nzByte s.a s.p⟩,
    ⟨_, exec_of_handler_ok rfl, rfl, nzSet_nzByte s.a s.p⟩,
    ⟨_, exec_of_handler_ok rfl, rfl, nzSet_nzByte s.x s.p⟩,
    ⟨_, exec_of_handler_ok rfl, rfl, nzSet_nzByte s.y s.p⟩,
    ⟨_, exec_of_handler_ok rfl, rfl, nzSet_nzByte s.sp s.p⟩,
    ⟨_, exec_of_handler_ok rfl, rfl, nzSet_nzByte s.x s.p⟩, rfl⟩

end Sys2Proof.Machine
end

section
/-! Logical instructions, increments and decrements (`42_logical_incdec.md` R86 to R94): each completes, from the laws
of the shape its handler has; plus or minus 1 in a byte is the spec's sum modulo 256. -/

namespace Sys2Proof.Machine

theorem add_one_eq_ofNat (b : Byte) : b + 1 = BitVec.ofNat 8 ((b.toNat + 1) % 256) := by
  apply BitVec.eq_of_toNat_eq
  rw [BitVec.toNat_add, BitVec.toNat_ofNat, Nat.mod_mod]
  rfl

theorem sub_one_eq_ofNat (b : Byte) : b - 1 = BitVec.ofNat 8 ((b.toNat + 255) % 256) := by
  apply BitVec.eq_of_toNat_eq
  rw [BitVec.toNat_sub, BitVec.toNat_ofNat, Nat.mod_mod, Nat.add_comm b.toNat]
  rfl

/-- An accumulator operation with any function of the accumulator and the operand. -/
theorem exec_accumulate {i : Instr} {m : Mnemonic} {op : Byte → Byte → Byte} (s : State) (hm : mnemonicOf i = m)
    (hhandler : handlerOf m = fun o => withOperand o (fun v u => (u.setA (op u.a v)).updateNZ (op u.a v)))
    (hmodes : .imp ∉ admittedModes m ∧ .rel ∉ admittedModes m) :
    ∃ v t, readOperand (operandOf i) (s.past i) = .ok v ∧ exec i s = .next t ∧
      t = { s.past i with a := op s.a v, p := t.p } ∧ NZSet (op s.a v) s.p t.p := by
  obtain ⟨v, hread, hexec⟩ := exec_of_withOperand s hm hhandler hmodes
  exact ⟨v, _, hread, hexec, rfl, nzSet_nzByte (op s.a v) s.p⟩

/-- Settles O20: every admitted mode of a logical instruction has an operand, and the handler puts the operation's
result in the accumulator and updates N and Z. -/
theorem logicalCompletesInEveryForm : Obligations.LogicalCompletesInEveryForm := by
  unfold Obligations.LogicalCompletesInEveryForm
  exact fun i s => ⟨fun hand => exec_accumulate (op := (· &&& ·)) s hand rfl (by decide),
    fun hora => exec_accumulate (op := (· ||| ·)) s hora rfl (by decide),
    fun heor => exec_accumulate (op := (· ^^^ ·)) s heor rfl (by decide)⟩

/-- A mnemonic that rewrites the byte at its address completes in each of its forms, when every admitted mode has an
address. -/
theorem exec_of_modifyMemory {i : Instr} {m : Mnemonic} {f : Byte → Byte} (s : State) (hm : mnemonicOf i = m)
    (hhandler : handlerOf m = modifyMemory f) (hmodes : ∀ mode ∈ admittedModes m, addressed mode = true) :
    ∃ ea r t, resolveAddress (operandOf i) (s.past i) = .ok ea ∧ exec i s = .next t ∧ r = f (s.memRead ea) ∧
      t = { s.past i with mem := s.mem.write ea r, p := t.p } ∧ NZSet r s.p t.p := by
  obtain ⟨ea, hea⟩ := resolveAddress_of_admitted (s.past i) hm hmodes
  have hexec : exec i s =
      .next (((s.past i).memWrite ea (f (s.memRead ea))).updateNZ (f (s.memRead ea))) := by
    apply exec_of_handler_ok
    rw [hm, hhandler]
    exact modifyMemory_ok hea
  exact ⟨ea, _, _, hea, hexec, rfl, rfl, nzSet_nzByte (f (s.memRead ea)) s.p⟩

theorem handlerOf_inc : handlerOf .inc = modifyMemory (fun b => BitVec.ofNat 8 ((b.toNat + 1) % 256)) :=
  calc handlerOf .inc
    _ = modifyMemory (fun b => b + 1) := rfl
    _ = _ := congrArg modifyMemory (funext add_one_eq_ofNat)

theorem handlerOf_dec : handlerOf .dec = modifyMemory (fun b => BitVec.ofNat 8 ((b.toNat + 255) % 256)) :=
  calc handlerOf .dec
    _ = modifyMemory (fun b => b - 1) := rfl
    _ = _ := congrArg modifyMemory (funext sub_one_eq_ofNat)

/-- Settles O21: every admitted mode of INC and DEC has an address, and the handler rewrites the byte there and updates
N and Z. -/
theorem memoryIncDecCompletesInEveryForm : Obligations.MemoryIncDecCompletesInEveryForm := by
  unfold Obligations.MemoryIncDecCompletesInEveryForm
  exact fun i s => ⟨fun hinc => exec_of_modifyMemory s hinc handlerOf_inc (by decide),
    fun hdec => exec_of_modifyMemory s hdec handlerOf_dec (by decide)⟩

/-- Settles O22: each of the four handlers answers without a condition, with the sum modulo 256 in its register. -/
theorem indexIncDecCompletes : Obligations.IndexIncDecCompletes := by
  unfold Obligations.IndexIncDecCompletes
  intro s
  exact ⟨⟨_, _, exec_of_handler_ok rfl, add_one_eq_ofNat s.x, rfl, nzSet_nzByte (s.x + 1) s.p⟩,
    ⟨_, _, exec_of_handler_ok rfl, add_one_eq_ofNat s.y, rfl, nzSet_nzByte (s.y + 1) s.p⟩,
    ⟨_, _, exec_of_handler_ok rfl, sub_one_eq_ofNat s.x, rfl, nzSet_nzByte (s.x - 1) s.p⟩,
    ⟨_, _, exec_of_handler_ok rfl, sub_one_eq_ofNat s.y, rfl, nzSet_nzByte (s.y - 1) s.p⟩⟩

end Sys2Proof.Machine
end

section
/-! Shifts and rotates (`43_shift_rotate.md` R95 to R99): the four functions as arithmetic, and the completion of every
form from the shape that the handlers share. -/

namespace Sys2Proof.Machine

theorem bitOf_lt_two (c : Bool) : bitOf c < 2 := by cases c <;> decide

/-- The bit that a left shift moves out of a byte. -/
theorem getLsbD_seven_eq_decide (b : Byte) : b.getLsbD 7 = decide (128 ≤ b.toNat) := BitVec.msb_eq_decide b

/-- The bit that a right shift moves out of a byte. -/
theorem getLsbD_zero_eq_decide (b : Byte) : b.getLsbD 0 = decide (b.toNat % 2 = 1) := Nat.testBit_zero b.toNat

theorem toNat_shiftLeft_one (b : Byte) : (b <<< 1).toNat = 2 * b.toNat % 256 := by
  rw [BitVec.toNat_shiftLeft, Nat.shiftLeft_eq, Nat.mul_comm]

theorem toNat_shiftRight_one (b : Byte) : (b >>> 1).toNat = b.toNat / 2 := by
  rw [BitVec.toNat_ushiftRight, Nat.shiftRight_eq_div_pow]

/-- The shifted byte is even, so the carry in takes a free bit 0. -/
theorem toNat_rolFn (b : Byte) (c : Bool) : (rolFn b c).1.toNat = (2 * b.toNat + bitOf c) % 256 := by
  have hc := bitOf_lt_two c
  have hcarry : (BitVec.ofNat 8 (bitOf c)).toNat = bitOf c := by rw [BitVec.toNat_ofNat]; omega
  calc (rolFn b c).1.toNat
    _ = 2 * b.toNat % 256 ||| bitOf c := by rw [rolFn, BitVec.toNat_or, toNat_shiftLeft_one, hcarry]
    _ = 2 ^ 1 * (b.toNat % 128) ||| bitOf c := by rw [← Nat.mul_mod_mul_left, pow_one]
    _ = 2 ^ 1 * (b.toNat % 128) + bitOf c := (Nat.two_pow_add_eq_or_of_lt hc _).symm
    _ = (2 * b.toNat + bitOf c) % 256 := by omega

/-- The shifted byte is below 128, so the carry in takes a free bit 7. -/
theorem toNat_rorFn (b : Byte) (c : Bool) : (rorFn b c).1.toNat = b.toNat / 2 + 128 * bitOf c := by
  have hc := bitOf_lt_two c
  have hhalf : b.toNat / 2 < 2 ^ 7 := by have := b.isLt; omega
  have hcarry : (BitVec.ofNat 8 (bitOf c) <<< 7).toNat = 2 ^ 7 * bitOf c := by
    rw [BitVec.toNat_shiftLeft, BitVec.toNat_ofNat, Nat.shiftLeft_eq]; omega
  calc (rorFn b c).1.toNat
    _ = b.toNat / 2 ||| 2 ^ 7 * bitOf c := by rw [rorFn, BitVec.toNat_or, toNat_shiftRight_one, hcarry]
    _ = 2 ^ 7 * bitOf c + b.toNat / 2 := by rw [Nat.or_comm, ← Nat.two_pow_add_eq_or_of_lt hhalf]
    _ = b.toNat / 2 + 128 * bitOf c := Nat.add_comm _ _

/-- The arithmetic of a shift instruction: the result `r` and the carry out that it makes of the byte `b` and the
carry in `c` (R96 to R99). -/
def ShiftArith (m : Mnemonic) (b : Byte) (c : Bool) (r : Byte) (carry : Bool) : Prop :=
  (m = .asl → r.toNat = 2 * b.toNat % 256 ∧ carry = decide (128 ≤ b.toNat)) ∧
  (m = .lsr → r.toNat = b.toNat / 2 ∧ carry = decide (b.toNat % 2 = 1)) ∧
  (m = .rol → r.toNat = (2 * b.toNat + bitOf c) % 256 ∧ carry = decide (128 ≤ b.toNat)) ∧
  (m = .ror → r.toNat = b.toNat / 2 + 128 * bitOf c ∧ carry = decide (b.toNat % 2 = 1))

/-- Each of the four has the shared shape of R95, with a function of its own arithmetic. -/
theorem handlerOf_eq_shiftWith {m : Mnemonic} (hm : m ∈ [.asl, .lsr, .rol, .ror]) :
    ∃ f, handlerOf m = shiftWith f ∧ ∀ b c, ShiftArith m b c (f b c).1 (f b c).2 := by
  simp only [List.mem_cons, List.not_mem_nil, or_false] at hm
  rcases hm with rfl | rfl | rfl | rfl
  · exact ⟨aslFn, rfl, fun b _ => ⟨fun _ => ⟨toNat_shiftLeft_one b, getLsbD_seven_eq_decide b⟩, nofun, nofun, nofun⟩⟩
  · exact ⟨lsrFn, rfl, fun b _ => ⟨nofun, fun _ => ⟨toNat_shiftRight_one b, getLsbD_zero_eq_decide b⟩, nofun, nofun⟩⟩
  · exact ⟨rolFn, rfl, fun b c => ⟨nofun, nofun, fun _ => ⟨toNat_rolFn b c, getLsbD_seven_eq_decide b⟩, nofun⟩⟩
  · exact ⟨rorFn, rfl, fun b c => ⟨nofun, nofun, nofun, fun _ => ⟨toNat_rorFn b c, getLsbD_zero_eq_decide b⟩⟩⟩

theorem shift_modes {m : Mnemonic} (hm : m ∈ [.asl, .lsr, .rol, .ror]) :
    ∀ mode ∈ admittedModes m, mode = .acc ∨ addressed mode = true := by
  revert m
  decide

/-- The flag byte of a shift: the carry is written first, then N and Z, which are other flags. -/
theorem flagIn_nzByte_withFlag_C (r : Byte) (carry : Bool) (p : Byte) (g : Flag) :
    flagIn (nzByte r (withFlag .C carry p)) g =
      if g = .C then carry else if g = .N then decide (128 ≤ r.toNat)
      else if g = .Z then decide (r.toNat = 0) else flagIn p g := by
  rw [nzSet_nzByte r (withFlag .C carry p) g, flagIn_withFlag]
  by_cases hg : g = .C
  · subst hg
    rfl
  · simp only [if_neg hg]

theorem Operand.mode_eq_acc_iff {o : Operand} : o.mode = .acc ↔ o = .acc := by
  cases o <;> simp [Operand.mode]

/-- The shared shape completes on the accumulator and on every byte with an address. -/
theorem shiftWith_completes (f : Byte → Bool → Byte × Bool) {o : Operand} (u : State)
    (hmode : o.mode = .acc ∨ addressed o.mode = true) :
    ∃ b t, readOperand o u = .ok b ∧ shiftWith f o u = .ok t ∧
      (o = .acc → t = { u with a := (f b (flagIn u.p .C)).1, p := t.p }) ∧
      (o ≠ .acc → ∃ ea, resolveAddress o u = .ok ea ∧
        t = { u with mem := u.mem.write ea (f b (flagIn u.p .C)).1, p := t.p }) ∧
      t.p = nzByte (f b (flagIn u.p .C)).1 (withFlag .C (f b (flagIn u.p .C)).2 u.p) := by
  rcases hmode with hacc | haddr
  · obtain rfl := Operand.mode_eq_acc_iff.1 hacc
    exact ⟨u.a, _, rfl, shiftWith_acc f u, fun _ => rfl, fun hne => absurd rfl hne, rfl⟩
  · obtain ⟨ea, hea⟩ := resolveAddress_ok o u haddr
    have hne : o ≠ .acc := by
      rintro rfl
      cases haddr
    exact ⟨u.mem.read ea, _, readOperand_of_address o u hea, shiftWith_ok hea, fun h => absurd h hne,
      fun _ => ⟨ea, hea, rfl⟩, rfl⟩

/-- Settles O24: the four handlers have one shape, which completes in ACC and in every mode with an address, and these
are the admitted modes; each function has the arithmetic of its instruction. -/
theorem shiftsCompleteInEveryForm : Obligations.ShiftsCompleteInEveryForm := by
  unfold Obligations.ShiftsCompleteInEveryForm
  intro i s hm
  obtain ⟨f, hhandler, harith⟩ := handlerOf_eq_shiftWith hm
  obtain ⟨b, t, hread, hok, hacc, hmem, hp⟩ :=
    shiftWith_completes f (s.past i) (shift_modes hm _ (mode_mem_admittedModes i))
  have hexec : exec i s = .next t := exec_of_handler_ok (by rw [hhandler, hok])
  obtain ⟨hasl, hlsr, hrol, hror⟩ := harith b (flagIn s.p .C)
  refine ⟨b, _, _, t, hread, hexec, hasl, hlsr, hrol, hror, hacc, hmem, fun g => ?_⟩
  rw [hp]
  exact flagIn_nzByte_withFlag_C _ _ _ g

end Sys2Proof.Machine
end

section
/-! Arithmetic, comparison and bit test (`44_arithmetic_compare_bit.md` R100 to R108): the flags of the three shared
computations as arithmetic, and the completion of every form from the shape its handler has. -/

namespace Sys2Proof.Machine

theorem toNat_addResult (a m : Byte) (c : Bool) :
    (addResult a m c).toNat = (a.toNat + m.toNat + bitOf c) % 256 := BitVec.toNat_ofNat _ _

/-- Overflow, defined by the signs (R100), is the signed sum leaving the range -128 to 127. -/
theorem addOverflow_eq_decide (a m : Byte) (c : Bool) :
    addOverflow a m c = decide (a.toInt + m.toInt + bitOf c < -128 ∨ 127 < a.toInt + m.toInt + bitOf c) := by
  have hc := bitOf_lt_two c
  have hsign : addOverflow a m c = true ↔
      (128 ≤ a.toNat ↔ 128 ≤ m.toNat) ∧ ¬ (128 ≤ (a.toNat + m.toNat + bitOf c) % 256 ↔ 128 ≤ a.toNat) := by
    simp [addOverflow, BitVec.msb_eq_decide, toNat_addResult]
  rw [Bool.eq_iff_iff, hsign, decide_eq_true_iff, BitVec.toInt_eq_toNat_cond, BitVec.toInt_eq_toNat_cond]
  omega

theorem toInt_complement (m : Byte) : (~~~m).toInt = -m.toInt - 1 := by
  rw [BitVec.toInt_eq_toNat_cond, BitVec.toInt_eq_toNat_cond, BitVec.toNat_not]
  omega

/-- SBC's carry out: adding the complement carries exactly when there is no borrow (R102). -/
theorem addCarry_complement (a m : Byte) (c : Bool) :
    addCarry a (~~~m) c = decide (m.toNat + (1 - bitOf c) ≤ a.toNat) := by
  have hc := bitOf_lt_two c
  rw [addCarry, BitVec.toNat_not, decide_eq_decide]
  omega

/-- SBC's overflow: the signed difference leaves the range -128 to 127 (R102). -/
theorem addOverflow_complement (a m : Byte) (c : Bool) :
    addOverflow a (~~~m) c =
      decide (a.toInt - m.toInt - (1 - bitOf c) < -128 ∨ 127 < a.toInt - m.toInt - (1 - bitOf c)) := by
  have hsum : a.toInt + (~~~m).toInt + bitOf c = a.toInt - m.toInt - (1 - bitOf c) := by
    rw [toInt_complement]
    ring
  rw [addOverflow_eq_decide, hsum]

theorem flagIn_addWithCarry (a m : Byte) (u : State) (f : Flag) :
    flagIn (u.addWithCarry a m).p f =
      if f = .C then addCarry a m (flagIn u.p .C) else if f = .V then addOverflow a m (flagIn u.p .C)
      else if f = .N then decide (128 ≤ (u.addWithCarry a m).a.toNat)
      else if f = .Z then decide ((u.addWithCarry a m).a.toNat = 0) else flagIn u.p f := by
  rw [State.addWithCarry_p, nzSet_nzByte _ _ f, flagIn_withFlag, flagIn_withFlag]
  cases f <;> rfl

theorem flagIn_compare (r m : Byte) (u : State) (f : Flag) :
    flagIn (u.compare r m).p f =
      if f = .Z then decide (r.toNat = m.toNat) else if f = .C then decide (m.toNat ≤ r.toNat)
      else if f = .N then decide (128 ≤ (r.toNat + 256 - m.toNat) % 256) else flagIn u.p f := by
  have hZ : (r == m) = decide (r.toNat = m.toNat) := Bool.eq_iff_iff.2 (by simp [BitVec.toNat_eq])
  have hdiff : (r - m).toNat = (r.toNat + 256 - m.toNat) % 256 := by
    rw [BitVec.toNat_sub]
    omega
  rw [State.compare_p, flagIn_withFlag, flagIn_withFlag, flagIn_withFlag, hZ, BitVec.msb_eq_decide, hdiff]
  cases f <;> rfl

theorem flagIn_bitTest (m : Byte) (u : State) (f : Flag) :
    flagIn (u.bitTest m).p f =
      if f = .Z then decide (m &&& u.a = 0) else if f = .N then m.getLsbD 7
      else if f = .V then m.getLsbD 6 else flagIn u.p f := by
  rw [State.bitTest_p, flagIn_withFlag, flagIn_withFlag, flagIn_withFlag]
  cases f <;> rfl

/-- A handler that raises ends the instruction's step in the raising state of the obligations. -/
theorem exec_of_handler_error {i : Instr} {s : State} {d : Diagnostic}
    (h : handlerOf (mnemonicOf i) (operandOf i) (s.past i) = .error d) : exec i s = .next (s.pastRaising i d) := by
  rw [exec_eq_runHandler]
  exact runHandler_error h

/-- The handler shape of ADC and SBC: `AddWithCarry` of the accumulator and a function of the operand, behind the
decimal check (R101 to R103). -/
def addHandler (g : Byte → Byte) (o : Operand) (u : State) : Except Diagnostic State :=
  if u.flag .D then .error (.unimplementedSemantics .decimal)
  else withOperand o (fun b v => v.addWithCarry v.a (g b)) u

theorem handlerOf_adc : handlerOf .adc = addHandler id := rfl

theorem handlerOf_sbc : handlerOf .sbc = addHandler (fun m => ~~~m) := rfl

theorem exec_of_addHandler_decimal {i : Instr} {m : Mnemonic} {g : Byte → Byte} {s : State} (hm : mnemonicOf i = m)
    (hhandler : handlerOf m = addHandler g) (hD : flagIn s.p .D = true) :
    exec i s = .next (s.pastRaising i (.unimplementedSemantics .decimal)) := by
  apply exec_of_handler_error
  rw [hm, hhandler]
  exact if_pos hD

/-- A mnemonic's operand is read in each of its forms, when no admitted mode lacks an operand. -/
theorem readOperand_of_admitted {i : Instr} {m : Mnemonic} (s : State) (hm : mnemonicOf i = m)
    (hmodes : .imp ∉ admittedModes m ∧ .rel ∉ admittedModes m) : ∃ v, readOperand (operandOf i) s = .ok v := by
  subst hm
  have hmode := mode_mem_admittedModes i
  exact readOperand_ok (operandOf i) s (ne_of_mem_of_not_mem hmode hmodes.1) (ne_of_mem_of_not_mem hmode hmodes.2)

/-- With `P.D = 0` the shape completes in every form that reads its operand. -/
theorem exec_of_addHandler_binary {i : Instr} {m : Mnemonic} {g : Byte → Byte} {s : State} (hm : mnemonicOf i = m)
    (hhandler : handlerOf m = addHandler g) (hmodes : .imp ∉ admittedModes m ∧ .rel ∉ admittedModes m)
    (hD : flagIn s.p .D = false) :
    ∃ v t, readOperand (operandOf i) (s.past i) = .ok v ∧ exec i s = .next t ∧
      t = (s.past i).addWithCarry s.a (g v) := by
  obtain ⟨v, hread⟩ := readOperand_of_admitted (s.past i) hm hmodes
  refine ⟨v, _, hread, exec_of_handler_ok ?_, rfl⟩
  rw [hm, hhandler]
  calc addHandler g (operandOf i) (s.past i)
    _ = withOperand (operandOf i) (fun b u => u.addWithCarry u.a (g b)) (s.past i) := if_neg (Bool.eq_false_iff.1 hD)
    _ = .ok ((s.past i).addWithCarry s.a (g v)) := withOperand_ok hread

/-- Settles O25: the decimal check decides between the raise and `AddWithCarry` on the operand itself. -/
theorem addWithCarryCompletesInEveryForm : Obligations.AddWithCarryCompletesInEveryForm := by
  unfold Obligations.AddWithCarryCompletesInEveryForm
  refine fun i s hm => ⟨exec_of_addHandler_decimal hm handlerOf_adc, fun hD => ?_⟩
  obtain ⟨v, t, hread, hexec, rfl⟩ := exec_of_addHandler_binary hm handlerOf_adc (by decide) hD
  exact ⟨v, _, hread, hexec, rfl, toNat_addResult s.a v (flagIn s.p .C), flagIn_addWithCarry s.a v (s.past i)⟩

/-- Settles O26: the same shape on the operand's complement, whose carry and overflow are those of the subtraction. -/
theorem subtractWithBorrowCompletesInEveryForm : Obligations.SubtractWithBorrowCompletesInEveryForm := by
  unfold Obligations.SubtractWithBorrowCompletesInEveryForm
  refine fun i s hm => ⟨exec_of_addHandler_decimal hm handlerOf_sbc, fun hD => ?_⟩
  obtain ⟨v, t, hread, hexec, rfl⟩ := exec_of_addHandler_binary hm handlerOf_sbc (by decide) hD
  refine ⟨v, _, hread, hexec, rfl, ?_, fun f => ?_⟩
  · rw [State.addWithCarry_a, toNat_addResult, BitVec.toNat_not]
    rfl
  · rw [← addCarry_complement, ← addOverflow_complement]
    exact flagIn_addWithCarry s.a (~~~v) (s.past i) f

/-- A comparison of any register that the step has not yet moved. -/
theorem exec_compare {i : Instr} {m : Mnemonic} {reg : State → Byte} (s : State) (hm : mnemonicOf i = m)
    (hhandler : handlerOf m = fun o => withOperand o (fun v u => u.compare (reg u) v))
    (hmodes : .imp ∉ admittedModes m ∧ .rel ∉ admittedModes m) {r : Byte} (hreg : reg (s.past i) = r) :
    ∃ v t, readOperand (operandOf i) (s.past i) = .ok v ∧ exec i s = .next t ∧ t = { s.past i with p := t.p } ∧
      ∀ f, flagIn t.p f =
        if f = .Z then decide (r.toNat = v.toNat) else if f = .C then decide (v.toNat ≤ r.toNat)
        else if f = .N then decide (128 ≤ (r.toNat + 256 - v.toNat) % 256) else flagIn s.p f := by
  subst hreg
  obtain ⟨v, hread, hexec⟩ := exec_of_withOperand s hm hhandler hmodes
  exact ⟨v, _, hread, hexec, rfl, flagIn_compare (reg (s.past i)) v (s.past i)⟩

/-- Settles O28: every admitted mode of a comparison has an operand, and the handler compares its register with it. -/
theorem comparesCompleteInEveryForm : Obligations.ComparesCompleteInEveryForm := by
  unfold Obligations.ComparesCompleteInEveryForm
  rintro i s r (⟨hcmp, rfl⟩ | ⟨hcpx, rfl⟩ | ⟨hcpy, rfl⟩)
  · exact exec_compare (reg := State.a) s hcmp rfl (by decide) rfl
  · exact exec_compare (reg := State.x) s hcpx rfl (by decide) rfl
  · exact exec_compare (reg := State.y) s hcpy rfl (by decide) rfl

/-- Settles O29: both admitted modes of BIT have an operand, and the handler tests it against the accumulator. -/
theorem bitTestCompletesInEveryForm : Obligations.BitTestCompletesInEveryForm := by
  unfold Obligations.BitTestCompletesInEveryForm
  intro i s hm
  obtain ⟨v, hread, hexec⟩ := exec_of_withOperand (k := fun v u => u.bitTest v) s hm rfl (by decide)
  exact ⟨v, _, hread, hexec, rfl, flagIn_bitTest v (s.past i)⟩

end Sys2Proof.Machine
end

section
/-! `P.D` outside ADC and SBC (`44_arithmetic_compare_bit.md` R103): toggling it commutes with every computation that
neither writes the flag nor stores the flag byte, so it commutes with every handler but theirs, PHP's, PLP's, CLD's and
SED's. -/

namespace Sys2Proof.Machine

/-- The state with `P.D` toggled. -/
def State.toggleDecimal (s : State) : State := { s with p := toggledFlag .D s.p }

theorem flagIn_toggledFlag (f g : Flag) (p : Byte) :
    flagIn (toggledFlag f p) g = if g = f then !flagIn p g else flagIn p g := by
  have hbit : g.bit = f.bit ↔ g = f := by cases f <;> cases g <;> decide
  simp only [flagIn, getLsbD_toggledFlag, hbit]

theorem withFlag_toggledFlag_same (f : Flag) (v : Bool) (p : Byte) :
    withFlag f v (toggledFlag f p) = withFlag f v p := by
  apply flagByte_ext
  intro g
  rw [flagIn_withFlag, flagIn_withFlag, flagIn_toggledFlag]
  by_cases hg : g = f
  · rw [if_pos hg, if_pos hg]
  · rw [if_neg hg, if_neg hg, if_neg hg]

theorem withFlag_toggledFlag_ne {f g : Flag} (v : Bool) (p : Byte) (h : f ≠ g) :
    withFlag f v (toggledFlag g p) = toggledFlag g (withFlag f v p) := by
  apply flagByte_ext
  intro k
  rw [flagIn_withFlag, flagIn_toggledFlag, flagIn_toggledFlag, flagIn_withFlag]
  by_cases hk : k = f
  · subst hk
    rw [if_pos rfl, if_neg h, if_pos rfl]
  · rw [if_neg hk, if_neg hk]

section StateOperations

variable (s : State)

@[simp] theorem toggleDecimal_a : s.toggleDecimal.a = s.a := rfl
@[simp] theorem toggleDecimal_x : s.toggleDecimal.x = s.x := rfl
@[simp] theorem toggleDecimal_y : s.toggleDecimal.y = s.y := rfl
@[simp] theorem toggleDecimal_sp : s.toggleDecimal.sp = s.sp := rfl
@[simp] theorem toggleDecimal_mem : s.toggleDecimal.mem = s.mem := rfl

@[simp] theorem setA_toggleDecimal (v : Byte) : s.toggleDecimal.setA v = (s.setA v).toggleDecimal := rfl
@[simp] theorem setX_toggleDecimal (v : Byte) : s.toggleDecimal.setX v = (s.setX v).toggleDecimal := rfl
@[simp] theorem setY_toggleDecimal (v : Byte) : s.toggleDecimal.setY v = (s.setY v).toggleDecimal := rfl
@[simp] theorem setSP_toggleDecimal (v : Byte) : s.toggleDecimal.setSP v = (s.setSP v).toggleDecimal := rfl
@[simp] theorem memWrite_toggleDecimal (ea : Addr) (v : Byte) :
    s.toggleDecimal.memWrite ea v = (s.memWrite ea v).toggleDecimal := rfl
@[simp] theorem afterPull_toggleDecimal : s.toggleDecimal.afterPull = s.afterPull.toggleDecimal := rfl

theorem flag_toggleDecimal {f : Flag} (h : f ≠ .D) : s.toggleDecimal.flag f = s.flag f :=
  (flagIn_toggledFlag .D f s.p).trans (if_neg h)

theorem setFlag_toggleDecimal {f : Flag} (v : Bool) (h : f ≠ .D) :
    s.toggleDecimal.setFlag f v = (s.setFlag f v).toggleDecimal :=
  congrArg s.setP (withFlag_toggledFlag_ne v s.p h)

theorem setFlag_decimal_toggleDecimal (v : Bool) : s.toggleDecimal.setFlag .D v = s.setFlag .D v :=
  congrArg s.setP (withFlag_toggledFlag_same .D v s.p)

@[simp] theorem updateNZ_toggleDecimal (b : Byte) : s.toggleDecimal.updateNZ b = (s.updateNZ b).toggleDecimal := by
  rw [State.updateNZ, setFlag_toggleDecimal s _ (by decide), setFlag_toggleDecimal _ _ (by decide), State.updateNZ]

@[simp] theorem transferXToSP_toggleDecimal (updatesNZ : Bool) :
    s.toggleDecimal.transferXToSP updatesNZ = (s.transferXToSP updatesNZ).toggleDecimal := by
  cases updatesNZ <;> simp [State.transferXToSP]

@[simp] theorem compare_toggleDecimal (r m : Byte) : s.toggleDecimal.compare r m = (s.compare r m).toggleDecimal := by
  rw [State.compare, setFlag_toggleDecimal s _ (by decide), setFlag_toggleDecimal _ _ (by decide),
    setFlag_toggleDecimal _ _ (by decide), State.compare]

@[simp] theorem bitTest_toggleDecimal (m : Byte) : s.toggleDecimal.bitTest m = (s.bitTest m).toggleDecimal := by
  rw [State.bitTest, setFlag_toggleDecimal s _ (by decide), setFlag_toggleDecimal _ _ (by decide),
    setFlag_toggleDecimal _ _ (by decide), State.bitTest, toggleDecimal_a]

end StateOperations

/-- A handler on which `P.D` has no effect: it raises the same with the flag toggled, and completes in the same state
but for the flag itself. -/
def DecimalBlind (h : State → Except Diagnostic State) : Prop :=
  ∀ s, h s.toggleDecimal = (h s).map State.toggleDecimal

theorem decimalBlind_ok {f : State → State} (hf : ∀ s, f s.toggleDecimal = (f s).toggleDecimal) :
    DecimalBlind (fun s => .ok (f s)) := fun s => congrArg Except.ok (hf s)

theorem decimalBlind_error (d : Diagnostic) : DecimalBlind (fun _ => .error d) := fun _ => rfl

/-- Fetching an operand does not look at the flag byte. -/
theorem decimalBlind_withOperand (o : Operand) {k : Byte → State → State}
    (hk : ∀ v s, k v s.toggleDecimal = (k v s).toggleDecimal) : DecimalBlind (withOperand o k) := by
  intro s
  have hread : readOperand o s.toggleDecimal = readOperand o s := readOperand_congr o rfl rfl rfl rfl
  rw [withOperand, withOperand, hread]
  cases readOperand o s with
  | ok v => exact congrArg Except.ok (hk v s)
  | error d => rfl

/-- Resolving an address does not look at the flag byte. -/
theorem decimalBlind_resolveAddress (o : Operand) {k : Addr → State → State}
    (hk : ∀ ea s, k ea s.toggleDecimal = (k ea s).toggleDecimal) :
    DecimalBlind (fun s => (resolveAddress o s).map (fun ea => k ea s)) := by
  intro s
  have hea : resolveAddress o s.toggleDecimal = resolveAddress o s := resolveAddress_congr o rfl rfl rfl
  simp only [hea]
  cases resolveAddress o s with
  | ok ea => exact congrArg Except.ok (hk ea s)
  | error d => rfl

theorem decimalBlind_storeByte (o : Operand) {reg : State → Byte} (hreg : ∀ s, reg s.toggleDecimal = reg s) :
    DecimalBlind (fun s => storeByte (reg s) o s) :=
  decimalBlind_resolveAddress o (k := fun ea s => s.memWrite ea (reg s)) (fun ea s => by
    rw [hreg, memWrite_toggleDecimal])

theorem decimalBlind_modifyMemory (f : Byte → Byte) (o : Operand) : DecimalBlind (modifyMemory f o) :=
  decimalBlind_resolveAddress o (k := fun ea s => (s.memWrite ea (f (s.memRead ea))).updateNZ (f (s.memRead ea)))
    (fun ea s => by simp)

theorem shiftWith_eq_map {f : Byte → Bool → Byte × Bool} {o : Operand} (hacc : o ≠ .acc) :
    shiftWith f o = fun s => (resolveAddress o s).map (fun ea =>
      ((s.setFlag .C (shifted f (s.memRead ea) s).2).memWrite ea (shifted f (s.memRead ea) s).1).updateNZ
        (shifted f (s.memRead ea) s).1) := by
  cases o with
  | acc => exact absurd rfl hacc
  | _ => rfl

/-- The carry is the only flag that a shift looks at. -/
theorem decimalBlind_shiftWith (f : Byte → Bool → Byte × Bool) (o : Operand) : DecimalBlind (shiftWith f o) := by
  have hshifted (b : Byte) (s : State) : shifted f b s.toggleDecimal = shifted f b s :=
    congrArg (f b) (flag_toggleDecimal s (by decide))
  have hcarry (v : Bool) (s : State) : s.toggleDecimal.setFlag .C v = (s.setFlag .C v).toggleDecimal :=
    setFlag_toggleDecimal s v (by decide)
  by_cases hacc : o = .acc
  · subst hacc
    exact fun s => congrArg Except.ok (by simp [hshifted, hcarry])
  · rw [shiftWith_eq_map hacc]
    exact decimalBlind_resolveAddress o (fun ea s => by simp [hshifted, hcarry])

/-- A branch whose condition is not `P.D`. -/
theorem decimalBlind_branch (o : Operand) {cond : State → Bool} (hcond : ∀ s, cond s.toggleDecimal = cond s) :
    DecimalBlind (fun s => branch (cond s) o s) := by
  intro s
  simp only [hcond]
  cases o with
  | rel op1 => cases cond s <;> rfl
  | _ => rfl

theorem decimalBlind_handlerOf {m : Mnemonic} (hm : m ∉ [.adc, .sbc, .php, .plp, .cld, .sed]) (o : Operand) :
    DecimalBlind (handlerOf m o) := by
  cases m with
  | adc | sbc | php | plp | cld | sed => exact absurd hm (by decide)
  | lda | ldx | ldy | and | ora | eor | cmp | cpx | cpy | bit => exact decimalBlind_withOperand o (fun v s => by simp)
  | sta => exact decimalBlind_storeByte o (reg := State.a) (fun _ => rfl)
  | stx => exact decimalBlind_storeByte o (reg := State.x) (fun _ => rfl)
  | sty => exact decimalBlind_storeByte o (reg := State.y) (fun _ => rfl)
  | inc => exact decimalBlind_modifyMemory (fun b => b + 1) o
  | dec => exact decimalBlind_modifyMemory (fun b => b - 1) o
  | asl => exact decimalBlind_shiftWith aslFn o
  | lsr => exact decimalBlind_shiftWith lsrFn o
  | rol => exact decimalBlind_shiftWith rolFn o
  | ror => exact decimalBlind_shiftWith rorFn o
  | jmp | jsr => exact decimalBlind_resolveAddress o (fun _ _ => rfl)
  | bpl | bmi | bvc | bvs | bcc | bcs | bne | beq =>
    exact decimalBlind_branch o (fun s => by rw [flag_toggleDecimal s (by decide)])
  | brk | rti => exact decimalBlind_error _
  | clc | sec | cli | sei | clv => exact decimalBlind_ok (fun s => setFlag_toggleDecimal s _ (by decide))
  | tax | tay | txa | tya | tsx | txs | inx | iny | dex | dey | pla =>
    exact decimalBlind_ok (fun s => by simp)
  | pha | rts | nop => exact decimalBlind_ok (fun _ => rfl)

/-- Both endings of a step commute with the toggle when its handler does. -/
theorem exec_toggleDecimal {i : Instr} {s t : State} (hm : mnemonicOf i ∉ [.adc, .sbc, .php, .plp, .cld, .sed])
    (hexec : exec i s = .next t) : exec i s.toggleDecimal = .next t.toggleDecimal := by
  have hblind : handlerOf (mnemonicOf i) (operandOf i) (s.past i).toggleDecimal =
      (handlerOf (mnemonicOf i) (operandOf i) (s.past i)).map State.toggleDecimal :=
    decimalBlind_handlerOf hm (operandOf i) (s.past i)
  rw [exec_eq_runHandler] at hexec ⊢
  rcases runHandler_cases hexec with hok | ⟨d, herr, rfl⟩
  · exact runHandler_ok (hblind.trans (congrArg (Except.map State.toggleDecimal) hok))
  · exact runHandler_error (hblind.trans (congrArg (Except.map State.toggleDecimal) herr))

/-- PLP, CLD and SED complete in a state that does not depend on the `P.D` they overwrite. -/
theorem handlerOf_overwriting_decimal {m : Mnemonic} (hm : m ∈ [.plp, .cld, .sed]) :
    ∃ f : State → State, (∀ o u, handlerOf m o u = .ok (f u)) ∧ ∀ u, f u.toggleDecimal = f u := by
  simp only [List.mem_cons, List.not_mem_nil, or_false] at hm
  rcases hm with rfl | rfl | rfl
  · exact ⟨fun u => u.afterPull.setP u.pulled, fun _ _ => rfl, fun _ => rfl⟩
  · exact ⟨State.setFlag .D false, fun _ _ => rfl, fun u => setFlag_decimal_toggleDecimal u false⟩
  · exact ⟨State.setFlag .D true, fun _ _ => rfl, fun u => setFlag_decimal_toggleDecimal u true⟩

theorem exec_toggleDecimal_of_overwriting {i : Instr} (s : State) (hm : mnemonicOf i ∈ [.plp, .cld, .sed]) :
    exec i s.toggleDecimal = exec i s := by
  obtain ⟨f, hhandler, hf⟩ := handlerOf_overwriting_decimal hm
  calc exec i s.toggleDecimal
    _ = .next (f (s.past i).toggleDecimal) := exec_of_handler_ok (hhandler _ _)
    _ = .next (f (s.past i)) := by rw [hf]
    _ = exec i s := (exec_of_handler_ok (hhandler _ _)).symm

theorem exec_php {i : Instr} (s : State) (hm : mnemonicOf i = .php) :
    exec i s = .next ((s.past i).push (s.p ||| 0x10)) := by
  apply exec_of_handler_ok
  rw [hm]
  rfl

theorem exec_decimal {i : Instr} {s : State} (hm : mnemonicOf i ∈ [.adc, .sbc]) (hD : flagIn s.p .D = true) :
    exec i s = .next (s.pastRaising i (.unimplementedSemantics .decimal)) := by
  simp only [List.mem_cons, List.not_mem_nil, or_false] at hm
  rcases hm with hadc | hsbc
  · exact exec_of_addHandler_decimal hadc handlerOf_adc hD
  · exact exec_of_addHandler_decimal hsbc handlerOf_sbc hD

theorem instrAccesses_decimal {i : Instr} {s : State} (hm : mnemonicOf i ∈ [.adc, .sbc]) (hD : flagIn s.p .D = true) :
    instrAccesses i s = [] := by
  simp only [List.mem_cons, List.not_mem_nil, or_false] at hm
  rcases hm with hadc | hsbc
  · rw [instrAccesses, hadc]
    exact if_pos hD
  · rw [instrAccesses, hsbc]
    exact if_pos hD

/-- Settles O27: ADC and SBC check the flag first; the handler of any other instruction commutes with the toggle,
overwrites the flag (PLP, CLD, SED) or pushes it (PHP). -/
theorem decimalModeRaisesOnlyInAddAndSubtract : Obligations.DecimalModeRaisesOnlyInAddAndSubtract := by
  unfold Obligations.DecimalModeRaisesOnlyInAddAndSubtract
  refine ⟨fun i s hm hD => ⟨exec_decimal hm hD, instrAccesses_decimal hm hD⟩,
    fun i s t hexec => ⟨?blind, ?writes, ?php⟩⟩
  case blind => exact fun hm => exec_toggleDecimal hm hexec
  case writes => exact fun hm => (exec_toggleDecimal_of_overwriting s hm).trans hexec
  case php =>
    intro hm
    rw [exec_php s hm] at hexec
    obtain rfl := Host.Outcome.next.inj hexec
    exact exec_php s.toggleDecimal hm

end Sys2Proof.Machine
end

section
/-! The stack (`45_stack.md` R111 to R118): the stack address as arithmetic, what pulls find after pushes, and the
completion of PHA, PHP, PLA and PLP. -/

namespace Sys2Proof.Machine

theorem zext16_eq_joinBytes (b : Byte) : zext16 b = joinBytes 0#8 b := by
  apply BitVec.eq_of_toNat_eq
  simp

/-- The stack lies in page one: 0x01 is the high byte of its addresses and `SP` the low byte. -/
theorem stackAddress_eq_joinBytes (sp : Byte) : stackAddress sp = joinBytes 1#8 sp := by
  have hpage : 0x0100#16 = joinBytes 1#8 0#8 := rfl
  rw [stackAddress, hpage, zext16_eq_joinBytes, joinBytes_or_joinBytes]

theorem stackAddress_eq_ofNat (sp : Byte) : stackAddress sp = BitVec.ofNat 16 (0x0100 + sp.toNat) :=
  stackAddress_eq_joinBytes sp

@[simp] theorem toNat_stackAddress (sp : Byte) : (stackAddress sp).toNat = 0x0100 + sp.toNat := by
  rw [stackAddress_eq_joinBytes, toNat_joinBytes]
  rfl

theorem stackAddress_injective : Function.Injective stackAddress := by
  intro sp sp' h
  have hval := congrArg BitVec.toNat h
  rw [toNat_stackAddress, toNat_stackAddress] at hval
  exact BitVec.eq_of_toNat_eq (Nat.add_left_cancel hval)

/-- Settles O30: the stack address is 0x0100 plus `SP`, and plus or minus 1 in a byte is the sum modulo 256. -/
theorem pushAndPullInPageOne : Obligations.PushAndPullInPageOne := by
  unfold Obligations.PushAndPullInPageOne
  intro s b
  refine ⟨?push, ?pulled, ?afterPull, ?bounds⟩
  case push =>
    rw [← stackAddress_eq_ofNat, ← sub_one_eq_ofNat]
    rfl
  case pulled =>
    rw [State.pulled, stackAddress_eq_ofNat, BitVec.toNat_add]
    rfl
  case afterPull =>
    rw [← add_one_eq_ofNat]
    rfl
  case bounds =>
    rw [toNat_stackAddress]
    omega

section RoundTrip
variable (s : State) (b : Byte)

theorem push_sp_add_one : (s.push b).sp + 1 = s.sp := BitVec.sub_add_cancel s.sp 1

theorem pulled_push : (s.push b).pulled = b := by
  rw [State.pulled, push_sp_add_one]
  exact s.mem.read_write_same (stackAddress s.sp) b

/-- A pull undoes a push but for the byte, which it does not erase (R112). -/
theorem afterPull_push : (s.push b).afterPull = s.memWrite (stackAddress s.sp) b := by
  rw [State.afterPull, push_sp_add_one]
  rfl

/-- A pull does not see the byte at the address of `SP` itself, where the next push goes. -/
theorem pulled_memWrite_stackAddress_sp : (s.memWrite (stackAddress s.sp) b).pulled = s.pulled := by
  have hsp : s.sp + 1 ≠ s.sp := by simp
  exact s.mem.read_write_ne b (stackAddress_injective.ne hsp)

end RoundTrip

/-- Settles O31: a pull after the second push leaves the state of the first push but for the byte at its `SP`, so the
next pull finds the byte of the first push. -/
theorem stackRoundTripAndLifo : Obligations.StackRoundTripAndLifo := by
  unfold Obligations.StackRoundTripAndLifo
  intro s b1 b2
  refine ⟨pulled_push s b1, push_sp_add_one s b1, ?byteStays, pulled_push (s.push b1) b2, ?secondPull, ?spRestored⟩
  case byteStays =>
    rw [afterPull_push]
    exact s.mem.read_write_same (stackAddress s.sp) b1
  case secondPull => rw [afterPull_push, pulled_memWrite_stackAddress_sp, pulled_push]
  case spRestored =>
    rw [afterPull_push]
    exact push_sp_add_one s b1

theorem exec_plp (s : State) :
    exec .plp s = .next { s.past .plp with p := s.memRead (stackAddress (s.sp + 1)), sp := s.sp + 1 } :=
  exec_of_handler_ok rfl

/-- Settles O33: PLP pulls the byte at the stack address before PHP's push, whichever byte stands there then, and PHP
alone writes memory, that byte only. -/
theorem phpThenPlpRestoresFlags : Obligations.PhpThenPlpRestoresFlags := by
  unfold Obligations.PhpThenPlpRestoresFlags
  intro s
  have hsp : s.sp - 1 + 1 = s.sp := BitVec.sub_add_cancel s.sp 1
  refine ⟨_, _, exec_php s rfl, exec_plp _, rfl, ?pushed, ?anyPlp, ?flags, hsp, rfl, rfl, rfl, ?frame⟩
  case pushed => exact s.mem.read_write_same _ _
  case anyPlp =>
    intro v b hv hb
    have hv' : v.sp + 1 = s.sp := (congrArg (· + 1) hv).trans hsp
    exact ⟨_, exec_plp v, hv' ▸ hb⟩
  case flags => exact pulled_push (s.past .php) (s.p ||| 0x10)
  case frame => exact fun addr h => s.mem.read_write_ne _ h

/-- Settles O32: each of the four handlers answers without a condition, with one push or one pull. -/
theorem stackInstructionsComplete : Obligations.StackInstructionsComplete := by
  unfold Obligations.StackInstructionsComplete
  intro s
  exact ⟨exec_of_handler_ok rfl, exec_php s rfl,
    ⟨s.pulled, _, rfl, exec_of_handler_ok rfl, rfl, nzSet_nzByte s.pulled s.p⟩, exec_plp s⟩

end Sys2Proof.Machine
end

section
/-! Control transfer (`46_control_transfer.md` R119 to R130): the arithmetic of the addresses that jumps, calls, returns
and branches compute, and the completion of each. -/

namespace Sys2Proof.Machine

theorem add_ofNat_eq_ofNat (w : Addr) (n : Nat) : w + BitVec.ofNat 16 n = BitVec.ofNat 16 (w.toNat + n) := by
  rw [BitVec.ofNat_add, BitVec.ofNat_toNat, BitVec.setWidth_eq]

/-- The pointer of a jump, its high byte read in the pointer's own page (R119). -/
theorem samePagePointer_eq_ofNat (op1 op2 : Byte) (s : State) :
    samePagePointer (operandWord op1 op2) s =
      BitVec.ofNat 16
        ((s.memRead (BitVec.ofNat 16 (op2.toNat * 256 + (op1.toNat + 1) % 256))).toNat * 256 +
          (s.memRead (BitVec.ofNat 16 (op2.toNat * 256 + op1.toNat))).toNat) := by
  rw [← toNat_samePagePointer, BitVec.ofNat_toNat, BitVec.setWidth_eq]

/-- The address that JSR pushes is that of its own last byte (R120). -/
theorem past_pc_sub_one_of_length_three {i : Instr} (s : State) (hlen : lengthOf i = 3) :
    (s.past i).pc - 1 = BitVec.ofNat 16 (s.pc.toNat + 2) := by
  rw [← add_ofNat_eq_ofNat, State.past, hlen]
  exact add_sub_assoc s.pc 3#16 1

theorem hiByte_ofNat (n : Nat) : hiByte (BitVec.ofNat 16 n) = BitVec.ofNat 8 (n % 65536 / 256) := by
  rw [hiByte, BitVec.toNat_ofNat]

theorem loByte_ofNat (n : Nat) : loByte (BitVec.ofNat 16 n) = BitVec.ofNat 8 (n % 256) := by
  rw [loByte, BitVec.toNat_ofNat, Nat.mod_mod_of_dvd n (by decide)]

theorem joinBytes_add_one (h l : Byte) : joinBytes h l + 1 = BitVec.ofNat 16 (h.toNat * 256 + l.toNat + 1) :=
  (BitVec.ofNat_add (h.toNat * 256 + l.toNat) 1).symm

theorem exec_jmpInd (op1 op2 : Byte) (s : State) :
    exec (.jmpInd op1 op2) s =
      .next ((s.past (.jmpInd op1 op2)).setPC (samePagePointer (operandWord op1 op2) s)) :=
  exec_of_handler_ok rfl

theorem exec_jsr (op1 op2 : Byte) (s : State) :
    exec (.jsr op1 op2) s =
      .next ((s.past (.jsr op1 op2)).pushReturnAddress.setPC (operandWord op1 op2)) :=
  exec_of_handler_ok rfl

theorem exec_rts (s : State) :
    exec .rts s = .next ((s.past .rts).afterPull.afterPull.setPC (joinBytes s.afterPull.pulled s.pulled + 1)) :=
  exec_of_handler_ok rfl

/-- JSR's pushes, from any state: `SP` is down by 2 and the two bytes stand at the stack addresses passed. -/
theorem pushReturnAddress_of_pc_sub_one {s : State} {n : Nat} (h : s.pc - 1 = BitVec.ofNat 16 n) :
    s.pushReturnAddress = { s with
      mem := (s.mem.write (stackAddress s.sp) (BitVec.ofNat 8 (n % 65536 / 256))).write
        (stackAddress (s.sp - 1)) (BitVec.ofNat 8 (n % 256)),
      sp := s.sp - 2 } := by
  have hsp : s.sp - 1 - 1 = s.sp - 2 := sub_sub s.sp 1 1
  rw [pushReturnAddress_eq, h, hiByte_ofNat, loByte_ofNat, ← hsp]
  rfl

theorem sp_add_one_add_one (s : State) : s.sp + 1 + 1 = s.sp + 2 := add_assoc s.sp 1 1

/-- Two pulls move `SP` up by 2, and nothing else. -/
theorem afterPull_afterPull (s : State) : s.afterPull.afterPull = s.setSP (s.sp + 2) := by
  rw [← sp_add_one_add_one]
  rfl

theorem pulled_afterPull (s : State) : s.afterPull.pulled = s.memRead (stackAddress (s.sp + 2)) := by
  rw [← sp_add_one_add_one]
  rfl

/-- Settles O34: each handler answers without a condition; what remains is the arithmetic of the address it goes to and,
for JSR, of the address it pushes. -/
theorem jumpCallAndReturnComplete : Obligations.JumpCallAndReturnComplete := by
  unfold Obligations.JumpCallAndReturnComplete
  intro op1 op2 s
  refine ⟨exec_of_handler_ok rfl, ?jmpInd, ?jsr, ?rts⟩
  case jmpInd =>
    rw [exec_jmpInd, samePagePointer_eq_ofNat]
    rfl
  case jsr =>
    rw [exec_jsr, pushReturnAddress_of_pc_sub_one (past_pc_sub_one_of_length_three s rfl)]
    rfl
  case rts =>
    rw [exec_rts, afterPull_afterPull, pulled_afterPull, joinBytes_add_one]
    rfl

/-- The offset of a branch counts from the address of the following instruction, as a signed number modulo 65536
(R122). -/
theorem ofNat_add_sext16 (n : Nat) (op1 : Byte) :
    BitVec.ofNat 16 n + sext16 op1 = BitVec.ofInt 16 (n + op1.toInt) := by
  rw [BitVec.ofInt_add, BitVec.ofInt_natCast]
  rfl

/-- Every branch completes: its handler is `branch` on a condition that asks whether the flag `f` has the value `v`. -/
theorem exec_branch {i : Instr} {op1 : Byte} {cond : State → Bool} {f : Flag} {v : Bool} (s : State)
    (hop : operandOf i = .rel op1) (hhandler : ∀ o u, handlerOf (mnemonicOf i) o u = branch (cond u) o u)
    (hcond : ∀ u, cond u = true ↔ flagIn u.p f = v) :
    exec i s = .next { s.past i with
      pc := if flagIn s.p f = v then BitVec.ofInt 16 (s.pc.toNat + 2 + op1.toInt)
        else BitVec.ofNat 16 (s.pc.toNat + 2) } := by
  have hlen : lengthOf i = 2 := congrArg (·.mode.length) hop
  have hpast : (s.past i).pc = BitVec.ofNat 16 (s.pc.toNat + 2) := by
    rw [← hlen, ← add_ofNat_eq_ofNat]
    rfl
  have htaken : (s.past i).pc + sext16 op1 = BitVec.ofInt 16 (s.pc.toNat + 2 + op1.toInt) := by
    rw [hpast]
    exact ofNat_add_sext16 (s.pc.toNat + 2) op1
  apply exec_of_handler_ok
  rw [hhandler, hop, branch_rel, htaken, ← hpast]
  by_cases hflag : flagIn s.p f = v
  · rw [if_pos hflag, if_pos ((hcond (s.past i)).2 hflag)]
    rfl
  · rw [if_neg hflag, if_neg (mt (hcond (s.past i)).1 hflag)]

/-- Settles O36: the eight handlers are `branch` on one flag, asked for 0 or for 1. -/
theorem branchesComplete : Obligations.BranchesComplete := by
  unfold Obligations.BranchesComplete
  rintro op1 s taken past rfl rfl
  have hclear (f : Flag) (u : State) : (!u.flag f) = true ↔ flagIn u.p f = false := Iff.of_eq (Bool.not_eq_true' _)
  have hset (f : Flag) (u : State) : u.flag f = true ↔ flagIn u.p f = true := Iff.rfl
  exact ⟨exec_branch s rfl (fun _ _ => rfl) (hclear .N), exec_branch s rfl (fun _ _ => rfl) (hset .N),
    exec_branch s rfl (fun _ _ => rfl) (hclear .V), exec_branch s rfl (fun _ _ => rfl) (hset .V),
    exec_branch s rfl (fun _ _ => rfl) (hclear .C), exec_branch s rfl (fun _ _ => rfl) (hset .C),
    exec_branch s rfl (fun _ _ => rfl) (hclear .Z), exec_branch s rfl (fun _ _ => rfl) (hset .Z)⟩

end Sys2Proof.Machine
end

section
/-! Flag instructions, NOP, BRK and RTI (`47_flag_nop_system.md` R133 to R142): a flag is written through the mask of its
bit, and a handler that raises makes no access. -/

namespace Sys2Proof.Machine

theorem withFlag_true_eq_or {f : Flag} {m : Byte} (p : Byte) (hmask : f.mask = m) : withFlag f true p = p ||| m := by
  subst hmask
  rfl

theorem withFlag_false_eq_and {f : Flag} {m : Byte} (p : Byte) (hmask : ~~~f.mask = m) :
    withFlag f false p = p &&& m := by
  subst hmask
  rfl

/-- An instruction whose handler writes one flag completes, with the flag byte `q` that the write leaves. -/
theorem exec_of_setFlag {i : Instr} {f : Flag} {v : Bool} {q : Byte} {s : State}
    (hhandler : handlerOf (mnemonicOf i) = fun _ u => .ok (u.setFlag f v)) (hq : withFlag f v s.p = q) :
    exec i s = .next { s.past i with p := q } := by
  subst hq
  apply exec_of_handler_ok
  rw [hhandler]
  rfl

/-- Settles O37: each handler of a flag instruction writes its one flag, 0 through the complement of the flag's mask and
1 through the mask; that of NOP answers the state it is given. -/
theorem flagInstructionsAndNopComplete : Obligations.FlagInstructionsAndNopComplete := by
  unfold Obligations.FlagInstructionsAndNopComplete
  intro s
  refine ⟨?clc, ?sec, ?cli, ?sei, ?clv, ?cld, ?sed, ?nop⟩
  case clc => exact exec_of_setFlag (f := .C) rfl (withFlag_false_eq_and s.p rfl)
  case sec => exact exec_of_setFlag (f := .C) rfl (withFlag_true_eq_or s.p rfl)
  case cli => exact exec_of_setFlag (f := .I) rfl (withFlag_false_eq_and s.p rfl)
  case sei => exact exec_of_setFlag (f := .I) rfl (withFlag_true_eq_or s.p rfl)
  case clv => exact exec_of_setFlag (f := .V) rfl (withFlag_false_eq_and s.p rfl)
  case cld => exact exec_of_setFlag (f := .D) rfl (withFlag_false_eq_and s.p rfl)
  case sed => exact exec_of_setFlag (f := .D) rfl (withFlag_true_eq_or s.p rfl)
  case nop => exact exec_of_handler_ok rfl

theorem pastRaising_pc_of_length_one {i : Instr} (d : Diagnostic) (s : State) (hlen : lengthOf i = 1) :
    (s.pastRaising i d).pc = s.pc + 1 := by
  rw [State.pastRaising, hlen]
  rfl

/-- Settles O38: both handlers raise on every state, both instructions are one byte long, and neither mnemonic has a data
access. -/
theorem brkAndRtiRaise : Obligations.BrkAndRtiRaise := by
  unfold Obligations.BrkAndRtiRaise
  exact fun s => ⟨exec_of_handler_error rfl, exec_of_handler_error rfl,
    pastRaising_pc_of_length_one _ s rfl, pastRaising_pc_of_length_one _ s rfl, rfl, rfl⟩

end Sys2Proof.Machine
end

section
/-! The encoder inverts the decoder and the decoder the encoder (`30_encoding.md` R47 to R52): what each cell of the
opcode map builds, read off the map once, and the cell of each instruction. -/

namespace Sys2Proof

/-- Every cell's instruction encodes to the cell's opcode byte and as many operand bytes as its mode carries. -/
theorem encode_build {row : OpcodeRow} (h : row ∈ opcodeTable) (op1 op2 : Byte) :
    encode (row.build op1 op2) = row.opcode :: [op1, op2].take row.mode.operandBytes := by
  have hall : opcodeTable.map (fun row => encode (row.build op1 op2)) =
      opcodeTable.map (fun row => row.opcode :: [op1, op2].take row.mode.operandBytes) := rfl
  exact List.map_inj_left.1 hall row h

/-- Every cell's instruction has the cell's mnemonic and an operand form of its mode. -/
theorem mnemonicOf_build {row : OpcodeRow} (h : row ∈ opcodeTable) (op1 op2 : Byte) :
    (mnemonicOf (row.build op1 op2), (operandOf (row.build op1 op2)).mode) = (row.mnemonic, row.mode) := by
  have hall : opcodeTable.map (fun row =>
        (mnemonicOf (row.build op1 op2), (operandOf (row.build op1 op2)).mode)) =
      opcodeTable.map (fun row => (row.mnemonic, row.mode)) := rfl
  exact List.map_inj_left.1 hall row h

theorem mem_opcodeTable_of_rowOf {opcode : Byte} {row : OpcodeRow} (h : rowOf opcode = some row) :
    row ∈ opcodeTable ∧ row.opcode = opcode := by
  obtain ⟨hmem, hopcode⟩ := rowOf_mem h
  have hnibble : opcode.toNat / 16 < 16 := by omega
  exact ⟨List.mem_flatMap.2 ⟨_, List.mem_range.2 hnibble, hmem⟩, hopcode⟩

theorem operandBytes_le_two (mode : Mode) : mode.operandBytes ≤ 2 := by cases mode <;> decide

/-- The first operand bytes of a long enough list are the list's own. -/
theorem take_getD_eq_take {bytes : List Byte} {n : Nat} (hn : n ≤ 2) (hlen : n ≤ bytes.length) :
    [bytes.getD 0 0, bytes.getD 1 0].take n = bytes.take n := by
  match bytes, n with
  | _, 0 => rfl
  | _ :: _, 1 => rfl
  | _ :: _ :: _, 2 => rfl

/-- Settles O1: the cell of the opcode byte builds the instruction back from its operand bytes, and its mode says how
many bytes to drop. -/
theorem decodeInvertsEncode : Obligations.DecodeInvertsEncode := by
  unfold Obligations.DecodeInvertsEncode
  intro i rest
  obtain ⟨row, hrow, -, hmode, hbuild⟩ := rowOf_opcodeOf i rest
  have hlen : row.mode.operandBytes = (operandOf i).bytes.length := by rw [hmode, length_bytes]
  have henough : ¬ ((operandOf i).bytes ++ rest).length < (operandOf i).bytes.length := by simp
  rw [encode, List.cons_append, decode, hrow]
  simp only [hlen, hbuild, if_neg henough, List.drop_left]

/-- Settles O2: a cell found for the first byte is a cell of the map with that byte, and its instruction encodes to it
and the operand bytes taken. -/
theorem encodeInvertsDecode : Obligations.EncodeInvertsDecode := by
  unfold Obligations.EncodeInvertsDecode
  intro bytes rest i h
  cases bytes with
  | nil => cases h
  | cons opcode tail =>
    cases hrow : rowOf opcode with
    | none => simp [decode, hrow] at h
    | some row =>
      by_cases hlen : tail.length < row.mode.operandBytes
      · simp [decode, hrow, hlen] at h
      · obtain ⟨hmem, rfl⟩ := mem_opcodeTable_of_rowOf hrow
        simp only [decode, hrow, hlen, if_false, Except.ok.injEq, Prod.mk.injEq] at h
        obtain ⟨rfl, rfl⟩ := h
        rw [encode_build hmem, take_getD_eq_take (operandBytes_le_two _) (Nat.le_of_not_lt hlen),
          List.cons_append, List.take_append_drop]

theorem length_opcodeTable : opcodeTable.length = 151 := by decide +kernel

theorem opcodeTable_opcodes_nodup : (opcodeTable.map (fun row => row.opcode)).Nodup := by
  decide +kernel

/-- No two cells have the same mnemonic and mode. -/
theorem opcodeTable_pairs_nodup : (opcodeTable.map (fun row => (row.mnemonic, row.mode))).Nodup := by
  decide +kernel

/-- The two tables of R51 agree: every admitted mode of a mnemonic has its cell in the matrix. -/
theorem exists_row_of_admitted {m : Mnemonic} {mode : Mode} (h : admitted m mode = true) :
    ∃ row ∈ opcodeTable, (row.mnemonic, row.mode) = (m, mode) := by
  have hcells : ∀ mode ∈ admittedModes m, (m, mode) ∈ opcodeTable.map (fun row => (row.mnemonic, row.mode)) := by
    cases m <;> decide
  exact List.mem_map.1 (hcells mode (List.contains_iff_mem.1 h))

/-- An instruction is known by its mnemonic and operand form: these pick its cell, and the cell builds it. -/
theorem eq_of_mnemonicOf_of_operandOf {i j : Instr} (hm : mnemonicOf i = mnemonicOf j)
    (ho : operandOf i = operandOf j) : i = j := by
  obtain ⟨row, hrow, hrowm, hrowmode, hbuild⟩ := rowOf_opcodeOf i []
  obtain ⟨row', hrow', hrowm', hrowmode', hbuild'⟩ := rowOf_opcodeOf j []
  have hpair : (row.mnemonic, row.mode) = (row'.mnemonic, row'.mode) := by
    rw [hrowm, hrowmode, hrowm', hrowmode', hm, ho]
  have hrows : row = row' := List.inj_on_of_nodup_map opcodeTable_pairs_nodup
    (mem_opcodeTable_of_rowOf hrow).1 (mem_opcodeTable_of_rowOf hrow').1 hpair
  rw [← hbuild, ← hbuild', hrows, ho]

/-- Settles O3: the matrix has a cell for each admitted pair, which builds an instruction of that pair, and every
instruction's pair is admitted. -/
theorem admittedPairsAreTheInstructions : Obligations.AdmittedPairsAreTheInstructions := by
  unfold Obligations.AdmittedPairsAreTheInstructions
  refine ⟨length_opcodeTable, opcodeTable_opcodes_nodup, fun m mode => ⟨fun h => ?cell, ?pair⟩,
    fun _ _ => eq_of_mnemonicOf_of_operandOf⟩
  case cell =>
    obtain ⟨row, hmem, hpair⟩ := exists_row_of_admitted h
    exact ⟨row.build 0 0, Prod.mk.inj ((mnemonicOf_build hmem 0 0).trans hpair)⟩
  case pair =>
    rintro ⟨i, rfl, rfl⟩
    exact Machine.admitted_mnemonicOf i

/-- Settles O5: each word names a cell of the map, which builds the instruction from the word's further bytes. -/
theorem sampleWordsDecode : Obligations.SampleWordsDecode := by
  unfold Obligations.SampleWordsDecode
  exact ⟨rfl, rfl, rfl, rfl, rfl, rfl, rfl, rfl, rfl, rfl⟩

end Sys2Proof
end

section
/-! The fetch (`48_dispatch_and_step.md` R150, R151): it reads exactly the bytes of the instruction it decodes, and the
instruction whose bytes stand at `PC` is the one it decodes, stored there by the program or not (`20_memory.md` R44). -/

namespace Sys2Proof.Machine

/-- The fetch of a legal opcode byte, through its cell of the map. -/
theorem fetchInstr_of_row {s : State} {row : OpcodeRow} (hrow : rowOf (fetchOpcode s) = some row) :
    fetchInstr s = .ok (row.build (if 2 ≤ row.mode.length then s.memRead (fetchAddress s 1) else 0)
      (if row.mode.length = 3 then s.memRead (fetchAddress s 2) else 0)) := by
  rw [fetchInstr, hrow]

theorem row_of_fetchInstr_eq_ok {s : State} {i : Instr} (h : fetchInstr s = .ok i) :
    ∃ row, rowOf (fetchOpcode s) = some row := by
  cases hrow : rowOf (fetchOpcode s) with
  | none => simp only [fetchInstr, hrow, reduceCtorEq] at h
  | some row => exact ⟨row, rfl⟩

/-- The fetch answers an error only for a byte with no cell, whose length is 1. -/
theorem fetchLength_of_fetchInstr_eq_error {s : State} {opcode : Byte} (h : fetchInstr s = .error opcode) :
    fetchLength s = 1 := by
  cases hrow : rowOf (fetchOpcode s) with
  | none => simp only [fetchLength, lengthOfOpcode, hrow, Config.illegalLength]
  | some row => simp only [fetchInstr, hrow, reduceCtorEq] at h

/-- The bytes of the instruction decoded are those at the fetch's addresses: the opcode byte, and as many operand bytes
as the mode of its cell carries. -/
theorem encode_of_fetchInstr {s : State} {i : Instr} (h : fetchInstr s = .ok i) :
    encode i = (List.range (fetchLength s)).map (fun k => s.memRead (fetchAddress s k)) := by
  obtain ⟨row, hrow⟩ := row_of_fetchInstr_eq_ok h
  obtain ⟨hmem, hopcode⟩ := mem_opcodeTable_of_rowOf hrow
  obtain rfl := Except.ok.inj ((fetchInstr_of_row hrow).symm.trans h)
  have hlen : fetchLength s = row.mode.length := by rw [fetchLength, lengthOfOpcode, hrow]
  rw [encode_build hmem, hopcode, hlen]
  cases row.mode <;> rfl

/-- Settles O57: the data read are the bytes of the instruction decoded, and the addresses are those of the fetch. -/
theorem fetchReadsExactlyTheInstruction : Obligations.FetchReadsExactlyTheInstruction := by
  unfold Obligations.FetchReadsExactlyTheInstruction
  intro s
  refine ⟨fun i hi => ⟨?data, fun k acc hacc => ?place⟩, fun opcode herr => ?illegal⟩
  case data =>
    rw [encode_of_fetchInstr hi, fetchAccesses, List.map_map]
    rfl
  case place =>
    rw [fetchAccesses, List.getElem?_map, Option.map_eq_some_iff] at hacc
    obtain ⟨j, hj, rfl⟩ := hacc
    obtain ⟨-, rfl⟩ := List.getElem?_eq_some_iff.1 hj
    refine ⟨rfl, ?_⟩
    rw [List.getElem_range, readAccess, fetchAddress, BitVec.toNat_add, BitVec.toNat_ofNat, Nat.add_mod_mod]
  case illegal =>
    rw [fetchAccesses, fetchLength_of_fetchInstr_eq_error herr]
    simp [fetchAddress]

/-- The bytes of an instruction at `PC` are fetched as that instruction: its opcode byte has its cell, and an operand
byte is read exactly where the operand form carries one. -/
theorem fetchInstr_of_bytes {s : State} {i : Instr}
    (h : ∀ k b, (encode i)[k]? = some b → s.memRead (s.pc + BitVec.ofNat 16 k) = b) : fetchInstr s = .ok i := by
  obtain ⟨row, hrow, -, hmode, hbuild⟩ := rowOf_opcodeOf i []
  have hopcode : fetchOpcode s = opcodeOf i := h 0 _ rfl
  rw [fetchInstr_of_row (hopcode ▸ hrow), hmode]
  refine congrArg Except.ok (Eq.trans ?_ hbuild)
  have hop1 := h 1
  have hop2 := h 2
  revert hop1 hop2
  rw [encode]
  cases operandOf i with
  | imp | acc => exact fun _ _ => rfl
  | imm op1 | zp op1 | zpx op1 | zpy op1 | izx op1 | izy op1 | rel op1 =>
    exact fun hop1 _ => congrArg (row.build · 0) (hop1 op1 rfl)
  | abs op1 op2 | abx op1 op2 | aby op1 op2 | ind op1 op2 =>
    exact fun hop1 hop2 => congrArg₂ row.build (hop1 op1 rfl) (hop2 op2 rfl)

/-- Settles O6: the fetch decodes the instruction whose bytes stand at `PC`. -/
theorem stepRunsDecodedInstruction : Obligations.StepRunsDecodedInstruction := by
  unfold Obligations.StepRunsDecodedInstruction
  exact fun s i h => step_eq_exec (fetchInstr_of_bytes h)

@[simp] theorem storeBytes_pc (bytes : List Byte) (addr : Addr) (s : State) : (storeBytes addr bytes s).pc = s.pc := by
  induction bytes generalizing addr s with
  | nil => rfl
  | cons b rest ih => exact ih (addr + 1) (s.memWrite addr b)

/-- Storing bytes from an address on leaves every byte outside them. -/
theorem memRead_storeBytes_of_ne (bytes : List Byte) {addr a : Addr} (s : State)
    (h : ∀ k < bytes.length, a ≠ addr + BitVec.ofNat 16 k) : (storeBytes addr bytes s).memRead a = s.memRead a := by
  induction bytes generalizing addr s with
  | nil => rfl
  | cons b rest ih =>
    have hhead : a ≠ addr := by simpa using h 0 (Nat.succ_pos _)
    have htail : ∀ k < rest.length, a ≠ addr + 1 + BitVec.ofNat 16 k := by
      intro k hk
      have := h (k + 1) (Nat.succ_lt_succ hk)
      rwa [BitVec.ofNat_add, add_comm (BitVec.ofNat 16 k), ← add_assoc] at this
    rw [storeBytes, ih _ htail]
    exact s.mem.read_write_ne b hhead

/-- Fewer bytes than memory holds are read back where they were stored, wrapping at the top of memory. -/
theorem memRead_storeBytes {bytes : List Byte} {addr : Addr} (s : State) {k : Nat} {b : Byte}
    (hlen : bytes.length ≤ 65536) (hb : bytes[k]? = some b) :
    (storeBytes addr bytes s).memRead (addr + BitVec.ofNat 16 k) = b := by
  induction bytes generalizing addr s k with
  | nil => cases hb
  | cons b' rest ih =>
    rw [List.length_cons] at hlen
    cases k with
    | zero =>
      obtain rfl : b' = b := by simpa using hb
      have hne : ∀ j < rest.length, addr + BitVec.ofNat 16 0 ≠ addr + 1 + BitVec.ofNat 16 j := by
        intro j hj heq
        bv_omega
      rw [storeBytes, memRead_storeBytes_of_ne rest _ hne]
      simp
    | succ j =>
      have hstep : addr + BitVec.ofNat 16 (j + 1) = addr + 1 + BitVec.ofNat 16 j := by
        rw [BitVec.ofNat_add, add_comm (BitVec.ofNat 16 j), ← add_assoc]
        rfl
      rw [storeBytes, hstep]
      exact ih _ (by omega) hb

/-- Settles O10: the bytes stored are read back at `PC`, which storing leaves, and the fetch decodes them. -/
theorem storedCodeIsFetched : Obligations.StoredCodeIsFetched := by
  unfold Obligations.StoredCodeIsFetched
  intro i s
  have hlen : (encode i).length ≤ 65536 := by
    have := operandBytes_le_two (operandOf i).mode
    rw [length_encode, lengthOf, Mode.length]
    omega
  apply step_eq_exec
  apply fetchInstr_of_bytes
  intro k b hb
  rw [storeBytes_pc]
  exact memRead_storeBytes s hlen hb

end Sys2Proof.Machine
end

section
/-! The footprint of a handler in memory (`20_memory.md` R46): the transactions listed beside it are the only bytes it
looks at, their writes are the only change it makes to memory, and a handler that raises makes none. Shown once for each
shape of handler, hence for the whole dispatch table. -/

namespace Sys2Proof.Machine

/-- The state over another memory. -/
def State.withMem (m : Memory) (s : State) : State := { s with mem := m }

/-- The reads of a list of transactions find the same bytes in `m`. -/
def ReadsAgree (accesses : List BusAccess) (m : Memory) : Prop :=
  ∀ acc ∈ accesses, acc.we = false → m.read acc.addr = acc.data

/-- A handler and the list of its transactions belong together. -/
structure Footprint (h : State → Except Diagnostic State) (accesses : State → List BusAccess) : Prop where
  /-- A handler that raises makes no access. -/
  raising : ∀ {u d}, h u = .error d → accesses u = []
  /-- What is listed as read is what stands in memory. -/
  reads : ∀ u, ReadsAgree (accesses u) u.mem
  /-- Over a memory with the same bytes at the addresses read, the same accesses are made, the outcome is the same, and
  the memory is left with the listed writes. -/
  onMem : ∀ u m, ReadsAgree (accesses u) m → accesses (u.withMem m) = accesses u ∧
    h (u.withMem m) = (h u).map (State.withMem (replayWrites (accesses u) m))

/-- A handler changes memory by its listed writes alone: over the memory that stands there, the listed reads agree. -/
theorem Footprint.mem_eq {h : State → Except Diagnostic State} {accesses : State → List BusAccess}
    (hfootprint : Footprint h accesses) {u t : State} (hok : h u = .ok t) :
    t.mem = replayWrites (accesses u) u.mem := by
  have hsame : Except.ok t = (h u).map _ := hok.symm.trans (hfootprint.onMem u u.mem (hfootprint.reads u)).2
  rw [hok] at hsame
  exact congrArg State.mem (Except.ok.inj hsame)

theorem replayWrites_append (l l' : List BusAccess) (m : Memory) :
    replayWrites (l ++ l') m = replayWrites l' (replayWrites l m) := by
  induction l generalizing m with
  | nil => rfl
  | cons acc rest ih => exact ih _

theorem eq_readAccess_of_mem_pointerReads {o : Operand} {s : State} {acc : BusAccess} (h : acc ∈ pointerReads o s) :
    acc = readAccess s acc.addr := by
  cases o with
  | ind | izx | izy =>
    simp only [pointerReads, List.mem_cons, List.not_mem_nil, or_false] at h
    rcases h with rfl | rfl <;> rfl
  | _ => cases h

/-- The pointer reads write nothing. -/
theorem replayWrites_pointerReads_append (o : Operand) (s : State) (l : List BusAccess) (m : Memory) :
    replayWrites (pointerReads o s ++ l) m = replayWrites l m := by
  have hreads : replayWrites (pointerReads o s) m = m := by cases o <;> rfl
  rw [replayWrites_append, hreads]

theorem readsAgree_append {l l' : List BusAccess} {m : Memory} :
    ReadsAgree (l ++ l') m ↔ ReadsAgree l m ∧ ReadsAgree l' m := List.forall_mem_append

theorem readsAgree_pointerReads (o : Operand) (s : State) : ReadsAgree (pointerReads o s) s.mem := by
  intro acc hacc _
  rw [eq_readAccess_of_mem_pointerReads hacc]
  rfl

/-- Resolving an address looks at the pointer bytes only, in memory. -/
theorem resolveAddress_withMem {o : Operand} {u : State} {m : Memory} (h : ReadsAgree (pointerReads o u) m) :
    resolveAddress o (u.withMem m) = resolveAddress o u := by
  cases o with
  | ind | izx =>
    have hlow := h _ List.mem_cons_self rfl
    have hhigh := h _ (List.mem_cons_of_mem _ List.mem_cons_self) rfl
    exact congrArg₂ (fun high low => Except.ok (joinBytes high low)) hhigh hlow
  | izy =>
    have hlow := h _ List.mem_cons_self rfl
    have hhigh := h _ (List.mem_cons_of_mem _ List.mem_cons_self) rfl
    exact congrArg₂ (fun high low => Except.ok (joinBytes high low + zext16 u.y)) hhigh hlow
  | _ => rfl

theorem pointerReads_withMem {o : Operand} {u : State} {m : Memory} (h : ReadsAgree (pointerReads o u) m) :
    pointerReads o (u.withMem m) = pointerReads o u := by
  cases o with
  | ind | izx | izy =>
    have hlow := h _ List.mem_cons_self rfl
    have hhigh := h _ (List.mem_cons_of_mem _ List.mem_cons_self) rfl
    exact congrArg₂ (fun low high => [BusAccess.mk _ false low, BusAccess.mk _ false high]) hlow hhigh
  | _ => rfl

theorem addressedAccesses_of_address {o : Operand} {atAddress : Addr → List BusAccess} {u : State} {ea : Addr}
    (h : resolveAddress o u = .ok ea) : addressedAccesses o atAddress u = pointerReads o u ++ atAddress ea := by
  rw [addressedAccesses, h]

theorem addressedAccesses_of_error {o : Operand} {atAddress : Addr → List BusAccess} {u : State} {d : Diagnostic}
    (h : resolveAddress o u = .error d) : addressedAccesses o atAddress u = [] := by
  rw [addressedAccesses, h]

/-- A handler that completes always. -/
theorem footprint_ok {f : State → State} {accesses : State → List BusAccess}
    (hreads : ∀ u, ReadsAgree (accesses u) u.mem)
    (honMem : ∀ u m, ReadsAgree (accesses u) m → accesses (u.withMem m) = accesses u ∧
      f (u.withMem m) = (f u).withMem (replayWrites (accesses u) m)) :
    Footprint (fun u => .ok (f u)) accesses where
  raising := nofun
  reads := hreads
  onMem u m h := ⟨(honMem u m h).1, congrArg Except.ok (honMem u m h).2⟩

/-- A handler that makes no access: memory is carried through it. -/
theorem footprint_nil {h : State → Except Diagnostic State}
    (honMem : ∀ u m, h (u.withMem m) = (h u).map (State.withMem m)) : Footprint h (fun _ => []) where
  raising _ := rfl
  reads _ := nofun
  onMem u m _ := ⟨rfl, honMem u m⟩

theorem footprint_nil_ok {f : State → State} (honMem : ∀ u m, f (u.withMem m) = (f u).withMem m) :
    Footprint (fun u => .ok (f u)) (fun _ => []) :=
  footprint_nil (fun u m => congrArg Except.ok (honMem u m))

/-- A handler that goes on with its effective address, from what it does at each address. -/
theorem footprint_addressed (o : Operand) {k : Addr → State → State} {atAddress : Addr → State → List BusAccess}
    (hk : ∀ ea, Footprint (fun u => .ok (k ea u)) (atAddress ea)) :
    Footprint (fun u => (resolveAddress o u).map (fun ea => k ea u))
      (fun u => addressedAccesses o (fun ea => atAddress ea u) u) := by
  by_cases haddr : addressed o.mode = true
  case neg =>
    -- Resolution raises in every state, and no access is made.
    have herr (u : State) := resolveAddress_error o u (Bool.eq_false_iff.2 haddr)
    refine ⟨fun {u _} _ => ?_, fun u => ?_, fun u m _ => ⟨?_, ?_⟩⟩
    · exact addressedAccesses_of_error (herr u)
    · rw [addressedAccesses_of_error (herr u)]
      exact nofun
    · rw [addressedAccesses_of_error (herr u), addressedAccesses_of_error (herr _)]
    · rw [herr, herr]
      rfl
  case pos =>
    have hok (u : State) := resolveAddress_ok o u haddr
    refine ⟨fun {u d} h => ?raising, fun u => ?reads, fun u m hm => ?onMem⟩
    case raising =>
      obtain ⟨ea, hea⟩ := hok u
      simp [hea, Except.map] at h
    case reads =>
      obtain ⟨ea, hea⟩ := hok u
      rw [addressedAccesses_of_address hea]
      exact readsAgree_append.2 ⟨readsAgree_pointerReads o u, (hk ea).reads u⟩
    case onMem =>
      obtain ⟨ea, hea⟩ := hok u
      rw [addressedAccesses_of_address hea] at hm ⊢
      obtain ⟨hptr, hat⟩ := readsAgree_append.1 hm
      obtain ⟨haccs, hrun⟩ := (hk ea).onMem u m hat
      have hea' := (resolveAddress_withMem hptr).trans hea
      rw [addressedAccesses_of_address hea', pointerReads_withMem hptr, haccs, hea', hea,
        replayWrites_pointerReads_append]
      exact ⟨rfl, hrun⟩

/-- A handler that completes with one byte of memory. -/
theorem footprint_read {addr : State → Addr} {k : Byte → State → State} (haddr : ∀ u m, addr (u.withMem m) = addr u)
    (hk : ∀ v u m, k v (u.withMem m) = (k v u).withMem m) :
    Footprint (fun u => .ok (k (u.memRead (addr u)) u)) (fun u => [readAccess u (addr u)]) := by
  refine footprint_ok (fun u => by simp [ReadsAgree, readAccess]) (fun u m hm => ?_)
  have hbyte : (u.withMem m).memRead (addr u) = u.memRead (addr u) := hm _ (List.mem_singleton_self _) rfl
  rw [readAccess, haddr, hbyte, hk]
  exact ⟨rfl, rfl⟩

theorem withOperand_eq_map {o : Operand} {k : Byte → State → State} (hacc : o.mode ≠ .acc) (himm : o.mode ≠ .imm) :
    withOperand o k = fun u => (resolveAddress o u).map (fun ea => k (u.memRead ea) u) := by
  cases o with
  | acc => exact absurd rfl hacc
  | imm op1 => exact absurd rfl himm
  | _ => rfl

theorem operandReads_eq_nil {o : Operand} (h : addressed o.mode = false) : operandReads o = fun _ => [] :=
  funext (fun u => addressedAccesses_of_error (resolveAddress_error o u h))

/-- A handler that goes on with its operand and takes memory through as it is. -/
theorem footprint_withOperand (o : Operand) {k : Byte → State → State}
    (hk : ∀ v u m, k v (u.withMem m) = (k v u).withMem m) : Footprint (withOperand o k) (operandReads o) := by
  by_cases hembedded : o.mode = .acc ∨ o.mode = .imm
  · rw [operandReads_eq_nil (by rcases hembedded with h | h <;> simp [h, addressed])]
    cases o with
    | acc => exact footprint_nil_ok (fun u m => hk u.a u m)
    | imm op1 => exact footprint_nil_ok (fun u m => hk op1 u m)
    | _ => simp [Operand.mode] at hembedded
  · obtain ⟨hacc, himm⟩ := not_or.1 hembedded
    rw [withOperand_eq_map hacc himm]
    exact footprint_addressed o (fun ea => footprint_read (addr := fun _ => ea) (fun _ _ => rfl) hk)

theorem footprint_storeByte (o : Operand) {reg : State → Byte} (hreg : ∀ u m, reg (u.withMem m) = reg u) :
    Footprint (fun u => storeByte (reg u) o u) (fun u => storeAccesses (reg u) o u) :=
  footprint_addressed o (k := fun ea u => u.memWrite ea (reg u)) (atAddress := fun ea u => [writeAccess ea (reg u)])
    (fun ea => footprint_ok (fun u => by simp [ReadsAgree, writeAccess])
      (fun u m _ => by rw [hreg]; exact ⟨rfl, rfl⟩))

/-- A read-modify-write: what is written, and what is done to registers and flags, may depend on them and on the byte
read. -/
theorem footprint_modify (o : Operand) {f : Byte → State → Byte} {k : Byte → State → State}
    (hf : ∀ b u m, f b (u.withMem m) = f b u) (hk : ∀ b u m, k b (u.withMem m) = (k b u).withMem m) :
    Footprint (fun u => (resolveAddress o u).map (fun ea =>
        (k (u.memRead ea) u).withMem (u.mem.write ea (f (u.memRead ea) u))))
      (fun u => modifyAccesses (fun b => f b u) o u) := by
  refine footprint_addressed o
    (k := fun ea u => (k (u.memRead ea) u).withMem (u.mem.write ea (f (u.memRead ea) u)))
    (atAddress := fun ea u => [readAccess u ea, writeAccess ea (f (u.memRead ea) u)])
    (fun ea => footprint_ok (fun u => ?_) (fun u m hm => ?_))
  · simp [ReadsAgree, readAccess, writeAccess]
  · have hbyte : (u.withMem m).memRead ea = u.memRead ea := hm _ List.mem_cons_self rfl
    rw [readAccess, hbyte, hf, hk]
    exact ⟨rfl, rfl⟩

theorem footprint_shiftWith (f : Byte → Bool → Byte × Bool) (o : Operand) :
    Footprint (shiftWith f o) (fun u => modifyAccesses (fun b => (shifted f b u).1) o u) := by
  by_cases hacc : o = .acc
  · subst hacc
    exact footprint_nil_ok (fun _ _ => rfl)
  · rw [shiftWith_eq_map hacc]
    exact footprint_modify o (f := fun b u => (shifted f b u).1)
      (k := fun b u => (u.setFlag .C (shifted f b u).2).updateNZ (shifted f b u).1)
      (fun _ _ _ => rfl) (fun _ _ _ => rfl)

theorem footprint_modifyMemory (f : Byte → Byte) (o : Operand) :
    Footprint (modifyMemory f o) (fun u => modifyAccesses f o u) :=
  footprint_modify o (f := fun b _ => f b) (k := fun b u => u.updateNZ (f b)) (fun _ _ _ => rfl) (fun _ _ _ => rfl)

theorem footprint_branch (o : Operand) {cond : State → Bool} (hcond : ∀ u m, cond (u.withMem m) = cond u) :
    Footprint (fun u => branch (cond u) o u) (fun _ => []) := by
  refine footprint_nil (fun u m => ?_)
  rw [hcond]
  cases o with
  | rel op1 => cases cond u <;> rfl
  | _ => rfl

/-- A handler behind the decimal check, which looks at no memory. -/
theorem footprint_addHandler (g : Byte → Byte) (o : Operand) :
    Footprint (addHandler g o) (fun u => if u.flag .D then [] else operandReads o u) := by
  have hbinary := footprint_withOperand o (k := fun b u => u.addWithCarry u.a (g b)) (fun _ _ _ => rfl)
  have hflag (u : State) (m : Memory) : (u.withMem m).flag .D = u.flag .D := rfl
  refine ⟨fun {u d} h => ?raising, fun u => ?reads, fun u m hm => ?onMem⟩
  case raising =>
    cases hD : u.flag .D
    · rw [addHandler, hD] at h
      exact hbinary.raising h
    · rfl
  case reads =>
    cases hD : u.flag .D
    · exact hbinary.reads u
    · exact nofun
  case onMem =>
    simp only [addHandler, hflag]
    cases hD : u.flag .D
    · rw [hD] at hm
      exact hbinary.onMem u m hm
    · simp only [if_true, true_and]
      rfl

theorem footprint_handlerOf (m : Mnemonic) (o : Operand) : Footprint (handlerOf m o) (dataAccesses m o) := by
  cases m with
  | lda | ldx | ldy | and | ora | eor | cmp | cpx | cpy | bit => exact footprint_withOperand o (fun _ _ _ => rfl)
  | adc => exact footprint_addHandler id o
  | sbc => exact footprint_addHandler (fun b => ~~~b) o
  | sta => exact footprint_storeByte o (reg := State.a) (fun _ _ => rfl)
  | stx => exact footprint_storeByte o (reg := State.x) (fun _ _ => rfl)
  | sty => exact footprint_storeByte o (reg := State.y) (fun _ _ => rfl)
  | inc => exact footprint_modifyMemory (fun b => b + 1) o
  | dec => exact footprint_modifyMemory (fun b => b - 1) o
  | asl => exact footprint_shiftWith aslFn o
  | lsr => exact footprint_shiftWith lsrFn o
  | rol => exact footprint_shiftWith rolFn o
  | ror => exact footprint_shiftWith rorFn o
  | jmp => exact footprint_addressed o (fun ea => footprint_nil_ok (fun _ _ => rfl))
  | jsr =>
    exact footprint_addressed o
      (atAddress := fun _ u => [writeAccess (stackAddress u.sp) (hiByte (u.pc - 1)),
        writeAccess (stackAddress (u.sp - 1)) (loByte (u.pc - 1))])
      (fun ea => footprint_ok (fun u => by simp [ReadsAgree, writeAccess]) (fun _ _ _ => ⟨rfl, rfl⟩))
  | rts =>
    refine footprint_ok (fun u => by simp [dataAccesses, ReadsAgree, readAccess]) (fun u m hm => ?_)
    have hlow : (u.withMem m).pulled = u.pulled := hm _ List.mem_cons_self rfl
    have hhigh : (u.withMem m).afterPull.pulled = u.afterPull.pulled :=
      hm _ (List.mem_cons_of_mem _ List.mem_cons_self) rfl
    rw [hlow, hhigh]
    exact ⟨congrArg₂ (fun low high => [BusAccess.mk _ false low, BusAccess.mk _ false high]) hlow hhigh, rfl⟩
  | pla => exact footprint_read (k := fun v u => (u.afterPull.setA v).updateNZ v) (fun _ _ => rfl) (fun _ _ _ => rfl)
  | plp => exact footprint_read (k := fun v u => u.afterPull.setP v) (fun _ _ => rfl) (fun _ _ _ => rfl)
  | pha | php => exact footprint_ok (fun u => by simp [dataAccesses, ReadsAgree, writeAccess]) (fun _ _ _ => ⟨rfl, rfl⟩)
  | bpl | bmi | bvc | bvs | bcc | bcs | bne | beq => exact footprint_branch o (fun _ _ => rfl)
  | brk | rti => exact footprint_nil (fun _ _ => rfl)
  | tax | tay | txa | tya | tsx | txs | inx | iny | dex | dey | clc | sec | cli | sei | clv | cld | sed | nop =>
    exact footprint_nil_ok (fun _ _ => rfl)

/-- Settles O59: both endings of a step carry the footprint of the handler; the advance of `PC` looks at no memory. -/
theorem onlyListedReadsMatter : Obligations.OnlyListedReadsMatter := by
  unfold Obligations.OnlyListedReadsMatter
  intro i s t m hexec hm
  have hfootprint := footprint_handlerOf (mnemonicOf i) (operandOf i)
  obtain ⟨haccs, hrun⟩ := hfootprint.onMem (s.past i) m hm
  refine ⟨haccs, ?_⟩
  rw [exec_eq_runHandler] at hexec ⊢
  rcases runHandler_cases hexec with hok | ⟨d, herr, rfl⟩
  · exact runHandler_ok (hrun.trans (congrArg (Except.map _) hok))
  · have hnone : instrAccesses i s = [] := hfootprint.raising herr
    rw [hnone]
    exact runHandler_error (hrun.trans (congrArg (Except.map _) herr))

/-- Settles O58: a handler that completes has made the listed writes, and one that raises has none listed. -/
theorem busWritesAreTheMemoryChange : Obligations.BusWritesAreTheMemoryChange := by
  unfold Obligations.BusWritesAreTheMemoryChange
  intro i s t hexec
  have hfootprint := footprint_handlerOf (mnemonicOf i) (operandOf i)
  rw [exec_eq_runHandler] at hexec
  rcases runHandler_cases hexec with hok | ⟨d, herr, rfl⟩
  · exact hfootprint.mem_eq hok
  · have hnone : instrAccesses i s = [] := hfootprint.raising herr
    rw [hnone]
    rfl

end Sys2Proof.Machine
end

section
/-! The list of an instruction's transactions, address and direction (`20_memory.md` R46,
`40_addressing_and_operands.md` section 4): by the shape of its handler, for the modes that its mnemonic admits. -/

namespace Sys2Proof.Machine

theorem placesOf_append (l l' : List BusAccess) : placesOf (l ++ l') = placesOf l ++ placesOf l' := List.map_append

theorem placesOf_addressedAccesses {o : Operand} {atAddress : Addr → List BusAccess} {u : State} {ea : Addr}
    (h : resolveAddress o u = .ok ea) :
    placesOf (addressedAccesses o atAddress u) = placesOf (pointerReads o u) ++ placesOf (atAddress ea) := by
  rw [addressedAccesses_of_address h, placesOf_append]

/-- The advance of `PC` does not move the pointers. -/
theorem pointerReads_past (o : Operand) (i : Instr) (s : State) : pointerReads o (s.past i) = pointerReads o s := by
  cases o <;> rfl

theorem instrAccesses_eq {i : Instr} {m : Mnemonic} (s : State) (hm : mnemonicOf i = m) :
    instrAccesses i s = dataAccesses m (operandOf i) (s.past i) := by
  subst hm
  rfl

section Shapes
variable {m : Mnemonic} (o : Operand) (u : State)

/-- The mnemonics that read an operand, ADC and SBC with `P.D = 0` among them. -/
theorem dataAccesses_eq_operandReads
    (hm : m ∈ [.lda, .ldx, .ldy, .and, .ora, .eor, .adc, .sbc, .cmp, .cpx, .cpy, .bit])
    (hD : m ∈ [.adc, .sbc] → flagIn u.p .D = false) : dataAccesses m o u = operandReads o u := by
  cases m with
  | lda | ldx | ldy | and | ora | eor | cmp | cpx | cpy | bit => rfl
  | adc | sbc => exact if_neg (Bool.eq_false_iff.1 (hD (by decide)))
  | _ => exact absurd hm (by decide)

theorem dataAccesses_eq_storeAccesses (hm : m ∈ [.sta, .stx, .sty]) :
    ∃ v, dataAccesses m o u = storeAccesses v o u := by
  cases m with
  | sta | stx | sty => exact ⟨_, rfl⟩
  | _ => exact absurd hm (by decide)

theorem dataAccesses_eq_modifyAccesses (hm : m ∈ [.inc, .dec, .asl, .lsr, .rol, .ror]) :
    ∃ f, dataAccesses m o u = modifyAccesses f o u := by
  cases m with
  | inc | dec | asl | lsr | rol | ror =>
    rw [dataAccesses]
    exact ⟨_, rfl⟩
  | _ => exact absurd hm (by decide)

/-- The mnemonics that access no memory but their own bytes. -/
theorem dataAccesses_eq_nil
    (hm : m ∈ [.tax, .tay, .txa, .tya, .tsx, .txs, .inx, .iny, .dex, .dey, .bpl, .bmi, .bvc, .bvs, .bcc, .bcs, .bne,
      .beq, .clc, .sec, .cli, .sei, .clv, .cld, .sed, .nop, .brk, .rti]) : dataAccesses m o u = [] := by
  cases m with
  | tax | tay | txa | tya | tsx | txs | inx | iny | dex | dey | bpl | bmi | bvc | bvs | bcc | bcs | bne | beq | clc
  | sec | cli | sei | clv | cld | sed | nop | brk | rti => rfl
  | _ => exact absurd hm (by decide)

end Shapes

theorem operand_modes {m : Mnemonic}
    (hm : m ∈ [.lda, .ldx, .ldy, .and, .ora, .eor, .adc, .sbc, .cmp, .cpx, .cpy, .bit]) :
    ∀ mode ∈ admittedModes m, mode ≠ .imm → addressed mode = true := by
  revert m
  decide

theorem store_modes {m : Mnemonic} (hm : m ∈ [.sta, .stx, .sty]) :
    ∀ mode ∈ admittedModes m, addressed mode = true := by
  revert m
  decide

theorem modify_modes {m : Mnemonic} (hm : m ∈ [.inc, .dec, .asl, .lsr, .rol, .ror]) :
    ∀ mode ∈ admittedModes m, mode ≠ .acc → addressed mode = true := by
  revert m
  decide

/-- The accesses of an instruction that goes on with its effective address. -/
theorem placesOf_instrAccesses {i : Instr} {s : State} {atAddress : Addr → List BusAccess}
    (haddr : addressed (operandOf i).mode = true)
    (haccs : instrAccesses i s = addressedAccesses (operandOf i) atAddress (s.past i)) :
    ∃ ea, resolveAddress (operandOf i) (s.past i) = .ok ea ∧
      placesOf (instrAccesses i s) = placesOf (pointerReads (operandOf i) s) ++ placesOf (atAddress ea) := by
  obtain ⟨ea, hea⟩ := resolveAddress_ok (operandOf i) (s.past i) haddr
  refine ⟨ea, hea, ?_⟩
  rw [haccs, placesOf_addressedAccesses hea, pointerReads_past]

section Groups
variable {i : Instr} {s : State}

theorem instrAccesses_of_operand
    (hm : mnemonicOf i ∈ [.lda, .ldx, .ldy, .and, .ora, .eor, .adc, .sbc, .cmp, .cpx, .cpy, .bit])
    (hD : mnemonicOf i ∈ [.adc, .sbc] → flagIn s.p .D = false) :
    ((operandOf i).mode = .imm → instrAccesses i s = []) ∧
    ((operandOf i).mode ≠ .imm → ∃ ea, resolveAddress (operandOf i) (s.past i) = .ok ea ∧
      placesOf (instrAccesses i s) = placesOf (pointerReads (operandOf i) s) ++ [(ea, false)]) := by
  have haccs : instrAccesses i s = operandReads (operandOf i) (s.past i) :=
    dataAccesses_eq_operandReads (operandOf i) (s.past i) hm hD
  refine ⟨fun himm => ?_, fun himm => ?_⟩
  · rw [haccs, operandReads_eq_nil (by simp [himm, addressed])]
  · exact placesOf_instrAccesses (operand_modes hm _ (mode_mem_admittedModes i) himm) haccs

theorem instrAccesses_of_store (hm : mnemonicOf i ∈ [.sta, .stx, .sty]) :
    ∃ ea, resolveAddress (operandOf i) (s.past i) = .ok ea ∧
      placesOf (instrAccesses i s) = placesOf (pointerReads (operandOf i) s) ++ [(ea, true)] := by
  obtain ⟨v, haccs⟩ := dataAccesses_eq_storeAccesses (operandOf i) (s.past i) hm
  exact placesOf_instrAccesses (store_modes hm _ (mode_mem_admittedModes i)) haccs

theorem instrAccesses_of_modify (hm : mnemonicOf i ∈ [.inc, .dec, .asl, .lsr, .rol, .ror]) :
    ((operandOf i).mode = .acc → instrAccesses i s = []) ∧
    ((operandOf i).mode ≠ .acc → ∃ ea, resolveAddress (operandOf i) (s.past i) = .ok ea ∧
      placesOf (instrAccesses i s) = placesOf (pointerReads (operandOf i) s) ++ [(ea, false), (ea, true)]) := by
  obtain ⟨f, haccs⟩ := dataAccesses_eq_modifyAccesses (operandOf i) (s.past i) hm
  refine ⟨fun hacc => ?_, fun hacc => ?_⟩
  · have herr := resolveAddress_error (operandOf i) (s.past i) (by simp [hacc, addressed])
    exact haccs.trans (addressedAccesses_of_error herr)
  · exact placesOf_instrAccesses (modify_modes hm _ (mode_mem_admittedModes i) hacc) haccs

theorem instrAccesses_of_jmp (hm : mnemonicOf i = .jmp) :
    placesOf (instrAccesses i s) = placesOf (pointerReads (operandOf i) s) := by
  have hmode := mode_mem_admittedModes i
  rw [hm] at hmode
  have haddr : ∀ mode ∈ admittedModes .jmp, addressed mode = true := by decide
  obtain ⟨ea, -, hplaces⟩ := placesOf_instrAccesses (haddr _ hmode) (instrAccesses_eq s hm)
  exact hplaces.trans (List.append_nil _)

/-- JSR has mode ABS only, which reads no pointer. -/
theorem instrAccesses_of_jsr (hm : mnemonicOf i = .jsr) :
    placesOf (instrAccesses i s) = [(stackAddress s.sp, true), (stackAddress (s.sp - 1), true)] := by
  have hmode := mode_mem_admittedModes i
  rw [hm] at hmode
  have habs : ∀ mode ∈ admittedModes .jsr, addressed mode = true ∧ mode ∉ [.ind, .izx, .izy] := by decide
  obtain ⟨haddr, hptr⟩ := habs _ hmode
  obtain ⟨ea, -, hplaces⟩ := placesOf_instrAccesses haddr (instrAccesses_eq s hm)
  rw [hplaces, pointerReads_eq_nil s hptr]
  rfl

theorem instrAccesses_of_push (hm : mnemonicOf i ∈ [.pha, .php]) :
    placesOf (instrAccesses i s) = [(stackAddress s.sp, true)] := by
  simp only [List.mem_cons, List.not_mem_nil, or_false] at hm
  rcases hm with hm | hm <;> (rw [instrAccesses_eq s hm]; rfl)

theorem instrAccesses_of_pull (hm : mnemonicOf i ∈ [.pla, .plp]) :
    placesOf (instrAccesses i s) = [(stackAddress (s.sp + 1), false)] := by
  simp only [List.mem_cons, List.not_mem_nil, or_false] at hm
  rcases hm with hm | hm <;> (rw [instrAccesses_eq s hm]; rfl)

theorem instrAccesses_of_rts (hm : mnemonicOf i = .rts) :
    placesOf (instrAccesses i s) = [(stackAddress (s.sp + 1), false), (stackAddress (s.sp + 2), false)] := by
  rw [instrAccesses_eq s hm, ← sp_add_one_add_one]
  rfl

end Groups

theorem operandFrom_bytes (o : Operand) : operandFrom o.mode o.bytes[0]? o.bytes[1]? = some o := by
  cases o <;> rfl

theorem lengthFits_recordOf (i : Instr) : (recordOf i).lengthFits = true := beq_self_eq_true _

theorem hasBehaviour_mnemonicOf (i : Instr) : hasBehaviour (mnemonicOf i) (operandOf i).mode = true := by
  rw [hasBehaviour, admitted_mnemonicOf, Bool.true_or]

/-- The record level makes the transactions of the machine instruction it is given. -/
theorem recordAccesses_recordOf (i : Instr) (s : State) : recordAccesses (recordOf i) s = instrAccesses i s := by
  have hrun : ((recordOf i).lengthFits && hasBehaviour (mnemonicOf i) (operandOf i).mode) = true := by
    rw [lengthFits_recordOf, hasBehaviour_mnemonicOf, Bool.true_and]
  simp only [recordAccesses, recordOf, operandFrom_bytes]
  exact if_pos hrun

theorem placesOf_pointerReads_ind (op1 op2 : Byte) (s : State) :
    placesOf (pointerReads (.ind op1 op2) s) =
      [(BitVec.ofNat 16 (op2.toNat * 256 + op1.toNat), false),
       (BitVec.ofNat 16 (op2.toNat * 256 + (op1.toNat + 1) % 256), false)] := by
  have hnext : samePageSucc (operandWord op1 op2) = BitVec.ofNat 16 (op2.toNat * 256 + (op1.toNat + 1) % 256) := by
    rw [samePageSucc_operandWord, operandWord, joinBytes, BitVec.toNat_add]
    rfl
  rw [← hnext]
  rfl

/-- The two reads of a pointer in page zero. -/
theorem zeroPagePlaces (ptr : Byte) :
    [(zext16 ptr, false), (zext16 (ptr + 1), false)] =
      [(BitVec.ofNat 16 ptr.toNat, false), (BitVec.ofNat 16 ((ptr.toNat + 1) % 256), false)] := by
  rw [zext16_eq_ofNat, zext16_eq_ofNat, BitVec.toNat_add]
  rfl

theorem placesOf_pointerReads_izx (op1 : Byte) (s : State) :
    placesOf (pointerReads (.izx op1) s) =
      [(BitVec.ofNat 16 ((op1.toNat + s.x.toNat) % 256), false),
       (BitVec.ofNat 16 ((op1.toNat + s.x.toNat + 1) % 256), false)] := by
  have h := zeroPagePlaces (op1 + s.x)
  rw [BitVec.toNat_add, Nat.mod_add_mod] at h
  exact h

/-- Settles O60: the lists by group of mnemonics, and the pointer reads by mode. -/
theorem transactionsOfEachInstruction : Obligations.TransactionsOfEachInstruction := by
  unfold Obligations.TransactionsOfEachInstruction
  refine ⟨fun s op1 op2 => ⟨placesOf_pointerReads_ind op1 op2 s, placesOf_pointerReads_izx op1 s, zeroPagePlaces op1,
    fun _ h => pointerReads_eq_nil s h⟩, ?_⟩
  rintro i s pointers rfl
  exact ⟨fun acc hacc hread =>
      ((footprint_handlerOf (mnemonicOf i) (operandOf i)).reads (s.past i) acc hacc hread).symm,
    recordAccesses_recordOf i s, instrAccesses_decimal, instrAccesses_of_operand, instrAccesses_of_store,
    instrAccesses_of_modify, instrAccesses_of_jmp, instrAccesses_of_jsr, instrAccesses_of_rts, instrAccesses_of_push,
    instrAccesses_of_pull, dataAccesses_eq_nil (operandOf i) (s.past i)⟩

end Sys2Proof.Machine
end

section
/-! What each instruction may change (`10_state.md` R11 to R24, R31). A frame is kept by every operation that the
mnemonic may use; each handler is built of such operations, so it stays within its frame, and so does the whole step. -/

namespace Sys2Proof.Machine

/-- The mnemonics that write a flag (R17 to R24). -/
def flagWriters : Flag → List Mnemonic
  | .N | .Z => [.lda, .ldx, .ldy, .tax, .tay, .txa, .tya, .tsx, .txs, .and, .ora, .eor, .inc, .dec, .inx, .iny,
      .dex, .dey, .asl, .lsr, .rol, .ror, .adc, .sbc, .cmp, .cpx, .cpy, .bit, .pla, .plp]
  | .V => [.adc, .sbc, .bit, .clv, .plp]
  | .B | .U => [.plp]
  | .D => [.sed, .cld, .plp]
  | .I => [.sei, .cli, .plp]
  | .C => [.adc, .sbc, .cmp, .cpx, .cpy, .asl, .lsr, .rol, .ror, .sec, .clc, .plp]

/-- The registers, flags and memory that the mnemonic does not write in this operand form are in `t` as in `s`. -/
structure FrameOf (m : Mnemonic) (o : Operand) (s t : State) : Prop where
  a : m ∉ [.lda, .and, .ora, .eor, .adc, .sbc, .pla, .txa, .tya] → o ≠ .acc → t.a = s.a
  x : m ∉ [.ldx, .tax, .tsx, .inx, .dex] → t.x = s.x
  y : m ∉ [.ldy, .tay, .iny, .dey] → t.y = s.y
  sp : m ∉ [.pha, .php, .pla, .plp, .jsr, .rts, .txs] → t.sp = s.sp
  pc : m ∉ [.jmp, .jsr, .rts, .bpl, .bmi, .bvc, .bvs, .bcc, .bcs, .bne, .beq] → t.pc = s.pc
  mem : m ∉ [.sta, .stx, .sty, .inc, .dec, .pha, .php, .jsr] → (m ∈ [.asl, .lsr, .rol, .ror] → o = .acc) →
    t.mem = s.mem
  flags : ∀ f, m ∉ flagWriters f → flagIn t.p f = flagIn s.p f

namespace FrameOf

variable {m : Mnemonic} {o : Operand} {s t : State}

theorem refl (m : Mnemonic) (o : Operand) (s : State) : FrameOf m o s s :=
  ⟨fun _ _ => rfl, fun _ => rfl, fun _ => rfl, fun _ => rfl, fun _ => rfl, fun _ _ => rfl, fun _ _ => rfl⟩

theorem setA (h : FrameOf m o s t) {v : Byte}
    (hm : m ∈ [.lda, .and, .ora, .eor, .adc, .sbc, .pla, .txa, .tya] ∨ o = .acc) : FrameOf m o s (t.setA v) :=
  { h with a := fun hnot hacc => absurd hm (not_or.2 ⟨hnot, hacc⟩) }

theorem setX (h : FrameOf m o s t) {v : Byte} (hm : m ∈ [.ldx, .tax, .tsx, .inx, .dex]) : FrameOf m o s (t.setX v) :=
  { h with x := fun hnot => absurd hm hnot }

theorem setY (h : FrameOf m o s t) {v : Byte} (hm : m ∈ [.ldy, .tay, .iny, .dey]) : FrameOf m o s (t.setY v) :=
  { h with y := fun hnot => absurd hm hnot }

theorem setSP (h : FrameOf m o s t) {v : Byte} (hm : m ∈ [.pha, .php, .pla, .plp, .jsr, .rts, .txs]) :
    FrameOf m o s (t.setSP v) :=
  { h with sp := fun hnot => absurd hm hnot }

theorem setPC (h : FrameOf m o s t) {v : Addr}
    (hm : m ∈ [.jmp, .jsr, .rts, .bpl, .bmi, .bvc, .bvs, .bcc, .bcs, .bne, .beq]) : FrameOf m o s (t.setPC v) :=
  { h with pc := fun hnot => absurd hm hnot }

theorem memWrite (h : FrameOf m o s t) {ea : Addr} {v : Byte}
    (hm : m ∈ [.sta, .stx, .sty, .inc, .dec, .pha, .php, .jsr] ∨ m ∈ [.asl, .lsr, .rol, .ror] ∧ o ≠ .acc) :
    FrameOf m o s (t.memWrite ea v) :=
  { h with mem := fun hnot hacc => hm.elim (absurd · hnot) (fun hshift => absurd (hacc hshift.1) hshift.2) }

theorem push (h : FrameOf m o s t) {b : Byte} (hm : m ∈ [.pha, .php, .jsr]) : FrameOf m o s (t.push b) := by
  have hwrites : ∀ m ∈ [Mnemonic.pha, .php, .jsr], m ∈ [.sta, .stx, .sty, .inc, .dec, .pha, .php, .jsr] ∧
      m ∈ [.pha, .php, .pla, .plp, .jsr, .rts, .txs] := by decide
  obtain ⟨hmem, hsp⟩ := hwrites m hm
  exact (h.memWrite (.inl hmem)).setSP hsp

theorem setFlag (h : FrameOf m o s t) {f : Flag} {v : Bool} (hm : m ∈ flagWriters f) :
    FrameOf m o s (t.setFlag f v) where
  __ := h
  flags g hg := by
    have hgf : g ≠ f := by
      rintro rfl
      exact hg hm
    rw [State.setFlag_p, flagIn_withFlag, if_neg hgf, h.flags g hg]

theorem updateNZ (h : FrameOf m o s t) {b : Byte} (hm : m ∈ flagWriters .N) : FrameOf m o s (t.updateNZ b) :=
  (h.setFlag (f := .Z) hm).setFlag hm

/-- The flag byte as a whole is written by PLP alone. -/
theorem setP (h : FrameOf .plp o s t) {v : Byte} : FrameOf .plp o s (t.setP v) where
  __ := h
  flags f hf := absurd (by cases f <;> decide) hf

end FrameOf

/-- The status of a step is the same: the report and `DIAG`. -/
def SameStatus (s t : State) : Prop := t.diag = s.diag ∧ t.report = s.report

/-- A handler that stays within the frame of a mnemonic and operand form wherever it completes, and reports nothing. -/
def StaysWithin (m : Mnemonic) (o : Operand) (h : State → Except Diagnostic State) : Prop :=
  ∀ u t : State, h u = .ok t → FrameOf m o u t ∧ SameStatus u t

section Shapes
variable {m : Mnemonic} {o : Operand}

theorem staysWithin_ok {f : State → State} (hf : ∀ u, FrameOf m o u (f u))
    (hstatus : ∀ u, SameStatus u (f u) := by exact fun _ => ⟨rfl, rfl⟩) :
    StaysWithin m o (fun u => .ok (f u)) := by
  intro u t h
  obtain rfl := Except.ok.inj h
  exact ⟨hf u, hstatus u⟩

theorem staysWithin_error (d : Diagnostic) : StaysWithin m o (fun _ => .error d) := fun _ _ h => nomatch h

theorem staysWithin_withOperand {k : Byte → State → State} (hk : ∀ v u, FrameOf m o u (k v u))
    (hstatus : ∀ v u, SameStatus u (k v u) := by exact fun _ _ => ⟨rfl, rfl⟩) : StaysWithin m o (withOperand o k) := by
  intro u t h
  obtain ⟨v, -, rfl⟩ := withOperand_eq_ok.1 h
  exact ⟨hk v u, hstatus v u⟩

theorem staysWithin_addressed {k : Addr → State → State} (hk : ∀ ea u, FrameOf m o u (k ea u))
    (hstatus : ∀ ea u, SameStatus u (k ea u) := by exact fun _ _ => ⟨rfl, rfl⟩) :
    StaysWithin m o (fun u => (resolveAddress o u).map (fun ea => k ea u)) := by
  intro u t h
  obtain ⟨ea, -, rfl⟩ := map_eq_ok.1 h
  exact ⟨hk ea u, hstatus ea u⟩

theorem staysWithin_addHandler (g : Byte → Byte) (hm : m ∈ [.adc, .sbc]) : StaysWithin m o (addHandler g o) := by
  intro u t h
  obtain ⟨-, hbinary⟩ := guarded_eq_ok.1 h
  obtain ⟨v, -, rfl⟩ := withOperand_eq_ok.1 hbinary
  have ha : m ∈ [.lda, .and, .ora, .eor, .adc, .sbc, .pla, .txa, .tya] := by revert m; decide
  have hC : m ∈ flagWriters .C := by revert m; decide
  have hV : m ∈ flagWriters .V := by revert m; decide
  have hNZ : m ∈ flagWriters .N := by revert m; decide
  exact ⟨((((FrameOf.refl m o u).setFlag hC).setFlag hV).setA (.inl ha)).updateNZ hNZ, rfl, rfl⟩

theorem staysWithin_shiftWith (f : Byte → Bool → Byte × Bool) (hm : m ∈ [.asl, .lsr, .rol, .ror]) :
    StaysWithin m o (shiftWith f o) := by
  intro u t h
  have hC : m ∈ flagWriters .C := by revert m; decide
  have hNZ : m ∈ flagWriters .N := by revert m; decide
  have hcarry (v : Bool) := (FrameOf.refl m o u).setFlag (v := v) hC
  rcases shiftWith_eq_ok.1 h with ⟨hacc, rfl⟩ | ⟨hacc, ea, -, rfl⟩
  · exact ⟨((hcarry _).setA (.inr hacc)).updateNZ hNZ, rfl, rfl⟩
  · exact ⟨((hcarry _).memWrite (.inr ⟨hm, hacc⟩)).updateNZ hNZ, rfl, rfl⟩

theorem staysWithin_branch {cond : State → Bool}
    (hm : m ∈ [.jmp, .jsr, .rts, .bpl, .bmi, .bvc, .bvs, .bcc, .bcs, .bne, .beq]) :
    StaysWithin m o (fun u => branch (cond u) o u) := by
  intro u t h
  obtain ⟨op1, -, rfl⟩ := branch_eq_ok.1 h
  split
  · exact ⟨(FrameOf.refl m o u).setPC hm, rfl, rfl⟩
  · exact ⟨FrameOf.refl m o u, rfl, rfl⟩

end Shapes

theorem staysWithin_handlerOf (m : Mnemonic) (o : Operand) : StaysWithin m o (handlerOf m o) := by
  have unchanged := FrameOf.refl m o
  cases m with
  | lda | and | ora | eor =>
    exact staysWithin_withOperand (fun _ u => ((unchanged u).setA (.inl (by decide))).updateNZ (by decide))
  | ldx => exact staysWithin_withOperand (fun _ u => ((unchanged u).setX (by decide)).updateNZ (by decide))
  | ldy => exact staysWithin_withOperand (fun _ u => ((unchanged u).setY (by decide)).updateNZ (by decide))
  | cmp | cpx | cpy | bit =>
    exact staysWithin_withOperand
      (fun _ u => (((unchanged u).setFlag (by decide)).setFlag (by decide)).setFlag (by decide))
  | adc => exact staysWithin_addHandler id (by decide)
  | sbc => exact staysWithin_addHandler (fun b => ~~~b) (by decide)
  | sta | stx | sty => exact staysWithin_addressed (fun _ u => (unchanged u).memWrite (.inl (by decide)))
  | inc | dec =>
    exact staysWithin_addressed (fun _ u => ((unchanged u).memWrite (.inl (by decide))).updateNZ (by decide))
  | asl => exact staysWithin_shiftWith aslFn (by decide)
  | lsr => exact staysWithin_shiftWith lsrFn (by decide)
  | rol => exact staysWithin_shiftWith rolFn (by decide)
  | ror => exact staysWithin_shiftWith rorFn (by decide)
  | jmp => exact staysWithin_addressed (fun _ u => (unchanged u).setPC (by decide))
  | jsr =>
    exact staysWithin_addressed (fun _ u => (((unchanged u).push (by decide)).push (by decide)).setPC (by decide))
  | bpl | bmi | bvc | bvs | bcc | bcs | bne | beq => exact staysWithin_branch (by decide)
  | brk | rti => exact staysWithin_error _
  | tax | tsx | inx | dex => exact staysWithin_ok (fun u => ((unchanged u).setX (by decide)).updateNZ (by decide))
  | tay | iny | dey => exact staysWithin_ok (fun u => ((unchanged u).setY (by decide)).updateNZ (by decide))
  | txa | tya => exact staysWithin_ok (fun u => ((unchanged u).setA (.inl (by decide))).updateNZ (by decide))
  | txs => exact staysWithin_ok (fun u => ((unchanged u).setSP (by decide)).updateNZ (by decide))
  | pha | php => exact staysWithin_ok (fun u => (unchanged u).push (by decide))
  | pla =>
    exact staysWithin_ok (fun u => (((unchanged u).setSP (by decide)).setA (.inl (by decide))).updateNZ (by decide))
  | plp => exact staysWithin_ok (fun u => ((unchanged u).setSP (by decide)).setP)
  | rts => exact staysWithin_ok (fun u => (((unchanged u).setSP (by decide)).setSP (by decide)).setPC (by decide))
  | clc | sec | cli | sei | clv | cld | sed => exact staysWithin_ok (fun u => (unchanged u).setFlag (by decide))
  | nop => exact staysWithin_ok unchanged

/-- The two endings of a machine instruction. -/
theorem exec_cases {i : Instr} {s t : State} (h : exec i s = .next t) :
    handlerOf (mnemonicOf i) (operandOf i) (s.past i) = .ok t ∨ ∃ d, t = s.pastRaising i d := by
  rw [exec_eq_runHandler] at h
  rcases runHandler_cases h with hok | ⟨d, -, rfl⟩
  · exact .inl hok
  · exact .inr ⟨d, rfl⟩

/-- The frame of a whole step, from the state past the instruction: raising changes nothing in it. -/
theorem exec_frame {i : Instr} {s t : State} (h : exec i s = .next t) :
    FrameOf (mnemonicOf i) (operandOf i) (s.past i) t := by
  rcases exec_cases h with hok | ⟨d, rfl⟩
  · exact (staysWithin_handlerOf _ _ _ _ hok).1
  · exact { FrameOf.refl _ _ (s.past i) with }

/-- Settles O42: the frame of the step, for the registers. -/
theorem registerFrame : Obligations.RegisterFrame := by
  unfold Obligations.RegisterFrame
  intro i s t h
  obtain ⟨ha, hx, hy, hsp, -, -, -⟩ := exec_frame h
  exact ⟨ha, hx, hy, hsp⟩

/-- Settles O43: the frame of the step, for the flags. -/
theorem flagFrame : Obligations.FlagFrame := by
  unfold Obligations.FlagFrame
  intro i s t h
  have hflags := (exec_frame h).flags
  exact ⟨fun hm => ⟨hflags .N hm, hflags .Z hm⟩, hflags .V, fun hm => ⟨hflags .B hm, hflags .U hm⟩,
    hflags .D, hflags .I, hflags .C⟩

/-- Settles O44: the frame of the step, for memory. -/
theorem nonStoringFormsKeepMemory : Obligations.NonStoringFormsKeepMemory := by
  unfold Obligations.NonStoringFormsKeepMemory
  intro i s t h hm hacc addr
  exact congrArg (fun mem => mem.read addr) ((exec_frame h).mem hm hacc)

/-- A byte that no transaction writes is left by the writes of the list. -/
theorem read_replayWrites_of_not_written {addr : Addr} {l : List BusAccess} (m : Memory)
    (h : (addr, true) ∉ placesOf l) : (replayWrites l m).read addr = m.read addr := by
  induction l generalizing m with
  | nil => rfl
  | cons acc rest ih =>
    obtain ⟨hhead, hrest⟩ := not_or.1 (mt List.mem_cons.2 h)
    rw [replayWrites, ih _ hrest]
    cases hwe : acc.we with
    | false => rfl
    | true =>
      have hne : addr ≠ acc.addr := fun heq => hhead (Prod.ext heq hwe.symm)
      exact m.read_write_ne acc.data hne

theorem exec_memRead_of_not_written {i : Instr} {s t : State} {addr : Addr} (h : exec i s = .next t)
    (hplaces : (addr, true) ∉ placesOf (instrAccesses i s)) : t.memRead addr = s.memRead addr := by
  have hmem := busWritesAreTheMemoryChange i s t h
  rw [State.memRead, hmem, read_replayWrites_of_not_written s.mem hplaces]
  rfl

theorem not_mem_placesOf_pointerReads (o : Operand) (s : State) (addr : Addr) :
    (addr, true) ∉ placesOf (pointerReads o s) := by
  intro h
  obtain ⟨acc, hacc, hplace⟩ := List.mem_map.1 h
  rw [eq_readAccess_of_mem_pointerReads hacc] at hplace
  cases (Prod.mk.inj hplace).2

/-- Settles O45: the writes that the transaction lists hold are at the effective address or at the stack addresses. -/
theorem storingFormsKeepOtherMemory : Obligations.StoringFormsKeepOtherMemory := by
  unfold Obligations.StoringFormsKeepOtherMemory
  intro i s t h
  refine ⟨fun hm ea hea addr hne => ?address, fun hm addr hne => ?push, fun hm addr hne hne' => ?jsr⟩
  case address =>
    apply exec_memRead_of_not_written h
    have hptr := not_mem_placesOf_pointerReads (operandOf i) s addr
    have hshape : mnemonicOf i ∈ [.sta, .stx, .sty] ∨ mnemonicOf i ∈ [.inc, .dec, .asl, .lsr, .rol, .ror] :=
      List.mem_append.1 hm
    rcases hshape with hstore | hmodify
    · obtain ⟨ea', hea', hplaces⟩ := instrAccesses_of_store (s := s) hstore
      obtain rfl := Except.ok.inj (hea.symm.trans hea')
      simp [hplaces, hptr, hne]
    · obtain ⟨hnone, hsome⟩ := instrAccesses_of_modify (s := s) hmodify
      by_cases hacc : (operandOf i).mode = .acc
      · rw [hnone hacc]
        exact List.not_mem_nil
      · obtain ⟨ea', hea', hplaces⟩ := hsome hacc
        obtain rfl := Except.ok.inj (hea.symm.trans hea')
        simp [hplaces, hptr, hne]
  case push =>
    apply exec_memRead_of_not_written h
    simp [instrAccesses_of_push hm, hne]
  case jsr =>
    apply exec_memRead_of_not_written h
    rw [instrAccesses_of_jsr hm]
    simp only [List.mem_cons, Prod.mk.injEq, hne, hne', false_and, List.not_mem_nil, or_self, not_false_eq_true]

end Sys2Proof.Machine
end

section
/-! Which machine instructions raise (`48_dispatch_and_step.md` R147, `60_exceptions.md` R157): every step has a next
state, and in an admitted mode a handler completes but for a decimal ADC or SBC, BRK and RTI. -/

namespace Sys2Proof.Machine

/-- A step in the frame of every handler has a next state, by one ending or the other. -/
theorem runHandler_next (n : Nat) (h : State → Except Diagnostic State) (s : State) :
    ∃ t, runHandler n h s = .next t := by
  cases hh : h (s.beginStep n) with
  | ok t => exact ⟨t, runHandler_ok hh⟩
  | error d => exact ⟨_, runHandler_error hh⟩

theorem exec_next (i : Instr) (s : State) : ∃ t, exec i s = .next t := by
  rw [exec_eq_runHandler]
  exact runHandler_next _ _ s

/-- Settles O8: both the instruction fetched and the illegal byte end in a next state. -/
theorem everyStepHasNextState : Obligations.EveryStepHasNextState := by
  unfold Obligations.EveryStepHasNextState
  intro s
  cases hfetch : fetchInstr s with
  | ok i => rw [step_eq_exec hfetch]; exact exec_next i s
  | error opcode => rw [step_eq_runIllegal hfetch]; exact ⟨_, runIllegal_eq opcode s⟩

/-- Settles O9: these mnemonics do not write `PC`, so it is where the beginning of the step put it. -/
theorem pcAdvancesByLength : Obligations.PcAdvancesByLength := by
  unfold Obligations.PcAdvancesByLength
  intro i s hm
  obtain ⟨t, ht⟩ := exec_next i s
  refine ⟨t, ht, ?_⟩
  have hpc : t.pc = s.pc + BitVec.ofNat 16 (lengthOf i) := (exec_frame ht).pc hm
  rw [hpc, length_encode, BitVec.toNat_add, BitVec.toNat_ofNat, Nat.add_mod_mod]

theorem Operand.eq_rel_of_mode {o : Operand} (h : o.mode = .rel) : ∃ op1, o = .rel op1 := by
  cases o with
  | rel op1 => exact ⟨op1, rfl⟩
  | _ => cases h

/-- In an admitted mode every handler completes but BRK's and RTI's and, with `P.D = 1`, those of ADC and SBC. -/
theorem handlerOf_completes {m : Mnemonic} {o : Operand} (u : State) (hmode : o.mode ∈ admittedModes m)
    (hD : ¬ (m ∈ [.adc, .sbc] ∧ flagIn u.p .D = true)) (hbrk : m ≠ .brk) (hrti : m ≠ .rti) :
    ∃ t, handlerOf m o u = .ok t := by
  have haddr (h : ∀ mode ∈ admittedModes m, addressed mode = true) : addressed o.mode = true := h _ hmode
  have hoperand (h : .imp ∉ admittedModes m ∧ .rel ∉ admittedModes m) : ∃ v, readOperand o u = .ok v :=
    readOperand_ok o u (ne_of_mem_of_not_mem hmode h.1) (ne_of_mem_of_not_mem hmode h.2)
  cases m with
  | lda | ldx | ldy | and | ora | eor | cmp | cpx | cpy | bit =>
    obtain ⟨v, hv⟩ := hoperand (by decide)
    exact ⟨_, map_eq_ok.2 ⟨v, hv, rfl⟩⟩
  | adc | sbc =>
    obtain ⟨v, hv⟩ := hoperand (by decide)
    exact ⟨_, guarded_eq_ok.2 ⟨Bool.eq_false_iff.2 (fun h => hD ⟨by decide, h⟩), withOperand_ok hv⟩⟩
  | sta | stx | sty | inc | dec | jmp | jsr =>
    obtain ⟨ea, hea⟩ := resolveAddress_ok o u (haddr (by decide))
    exact ⟨_, map_eq_ok.2 ⟨ea, hea, rfl⟩⟩
  | asl | lsr | rol | ror =>
    obtain ⟨-, t, -, ht, -⟩ := shiftWith_completes _ u (shift_modes (by decide) _ hmode)
    exact ⟨t, ht⟩
  | bpl | bmi | bvc | bvs | bcc | bcs | bne | beq =>
    obtain ⟨op1, rfl⟩ := Operand.eq_rel_of_mode (List.mem_singleton.1 hmode)
    exact ⟨_, branch_rel _ op1 u⟩
  | brk => exact absurd rfl hbrk
  | rti => exact absurd rfl hrti
  | tax | tay | txa | tya | tsx | txs | inx | iny | dex | dey | pha | php | pla | plp | rts | clc | sec | cli | sei
  | clv | cld | sed | nop => exact ⟨_, rfl⟩

theorem exec_brk {i : Instr} (s : State) (hm : mnemonicOf i = .brk) :
    exec i s = .next (s.pastRaising i (.unimplementedSemantics .brk)) := by
  apply exec_of_handler_error
  rw [hm]
  rfl

theorem exec_rti {i : Instr} (s : State) (hm : mnemonicOf i = .rti) :
    exec i s = .next (s.pastRaising i (.unimplementedSemantics .rti)) := by
  apply exec_of_handler_error
  rw [hm]
  rfl

/-- Where none of the four raises, the step reports nothing. -/
theorem exec_report_eq_none {i : Instr} {s t : State} (hexec : exec i s = .next t)
    (hD : ¬ (mnemonicOf i ∈ [.adc, .sbc] ∧ flagIn s.p .D = true)) (hbrk : mnemonicOf i ≠ .brk)
    (hrti : mnemonicOf i ≠ .rti) : t.report = none := by
  obtain ⟨t', hok⟩ := handlerOf_completes (s.past i) (mode_mem_admittedModes i) hD hbrk hrti
  obtain rfl := Host.Outcome.next.inj (hexec.symm.trans (exec_of_handler_ok hok))
  obtain ⟨-, -, hreport⟩ := staysWithin_handlerOf _ _ _ _ hok
  exact hreport

/-- Settles O39: ADC and SBC with `P.D = 1`, BRK and RTI raise with their own causes, and no other step reports. -/
theorem onlyUnimplementedSemanticsAreRaised : Obligations.OnlyUnimplementedSemanticsAreRaised := by
  unfold Obligations.OnlyUnimplementedSemanticsAreRaised
  intro i s t hexec
  by_cases hD : mnemonicOf i ∈ [.adc, .sbc] ∧ flagIn s.p .D = true
  · obtain rfl := Host.Outcome.next.inj (hexec.symm.trans (exec_decimal hD.1 hD.2))
    have hbrk : mnemonicOf i ≠ .brk := ne_of_mem_of_not_mem hD.1 (by decide)
    have hrti : mnemonicOf i ≠ .rti := ne_of_mem_of_not_mem hD.1 (by decide)
    simp [State.pastRaising, hD, hbrk, hrti]
  by_cases hbrk : mnemonicOf i = .brk
  · obtain rfl := Host.Outcome.next.inj (hexec.symm.trans (exec_brk s hbrk))
    simp [State.pastRaising, hbrk]
  by_cases hrti : mnemonicOf i = .rti
  · obtain rfl := Host.Outcome.next.inj (hexec.symm.trans (exec_rti s hrti))
    simp [State.pastRaising, hrti]
  have hreport := exec_report_eq_none hexec hD hbrk hrti
  simp only [hreport, hD, hbrk, hrti, reduceCtorEq, iff_self, not_false_eq_true, ne_eq, and_self, IsEmpty.forall_iff,
    implies_true]

end Sys2Proof.Machine
end

section
/-! `Execute` on a record (`48_dispatch_and_step.md` R143 to R149): the record of a machine instruction runs as that
instruction, one of kind (a) raises in its operand routine, one with an unknown mnemonic is reported, and every other is
refused. -/

namespace Sys2Proof.Machine

theorem operandFrom_mode {mode : Mode} {op1 op2 : Option Byte} {o : Operand} (h : operandFrom mode op1 op2 = some o) :
    o.mode = mode := by
  unfold operandFrom at h
  split at h <;> cases h <;> rfl

/-- A record of a known mnemonic runs its handler when its operand bytes and its length fit and its mode has a
behaviour. -/
theorem executeKnown_eq_runHandler {m : Mnemonic} {r : Record} {o : Operand} (s : State)
    (ho : operandFrom r.mode r.op1 r.op2 = some o) (hlen : r.lengthFits = true) (hb : hasBehaviour m r.mode = true) :
    executeKnown m r s = runHandler r.length (handlerOf m o) s := by
  have hlength : r.length = o.mode.length := by rw [operandFrom_mode ho]; exact eq_of_beq hlen
  rw [hlength]
  simp only [executeKnown, ho, hlen, hb, Bool.and_self, if_true, executeWith]

theorem executeKnown_eq_refused {m : Mnemonic} {r : Record} (s : State)
    (h : ¬ (r.operandBytesFit = true ∧ r.lengthFits = true ∧ hasBehaviour m r.mode = true)) :
    executeKnown m r s = .refused .illFormedRecord := by
  cases ho : operandFrom r.mode r.op1 r.op2 with
  | none => simp only [executeKnown, ho]
  | some o =>
    have hbytes : r.operandBytesFit = true := by rw [Record.operandBytesFit, ho]; rfl
    have hrun : ¬ (r.lengthFits && hasBehaviour m r.mode) = true := by
      rw [Bool.and_eq_true]
      exact fun hrun => h ⟨hbytes, hrun⟩
    simp only [executeKnown, ho]
    exact if_neg hrun

/-- A record of a known mnemonic is refused exactly when it does not run. -/
theorem executeKnown_eq_refused_iff (m : Mnemonic) (r : Record) (s : State) :
    executeKnown m r s = .refused .illFormedRecord ↔
      ¬ (r.operandBytesFit = true ∧ r.lengthFits = true ∧ hasBehaviour m r.mode = true) := by
  refine ⟨?_, executeKnown_eq_refused s⟩
  rintro hrefused ⟨hbytes, hlen, hb⟩
  obtain ⟨o, ho⟩ := Option.isSome_iff_exists.1 hbytes
  obtain ⟨t, ht⟩ := runHandler_next r.length (handlerOf m o) s
  rw [executeKnown_eq_runHandler s ho hlen hb, ht] at hrefused
  cases hrefused

/-- The table of kind (a) of R148, by the routine the handler uses. -/
theorem mem_modesWithoutOperand_iff (m : Mnemonic) (mode : Mode) :
    mode ∈ modesWithoutOperand m ↔
      (m ∈ [.lda, .ldx, .ldy, .and, .ora, .eor, .adc, .sbc, .cmp, .cpx, .cpy, .bit] ∧ mode ∈ [.imp, .rel]) ∨
      (m ∈ [.sta, .stx, .sty, .jmp, .jsr] ∧ mode ∈ [.acc, .imm, .imp, .rel]) ∨
      (m ∈ [.asl, .lsr, .rol, .ror, .inc, .dec] ∧ mode ∈ [.imm, .imp, .rel]) := by
  cases m <;> simp [modesWithoutOperand]

theorem addressed_of_mem_modesWithoutOperand {m : Mnemonic} {mode : Mode} (h : mode ∈ modesWithoutOperand m) :
    addressed mode = false := by
  have hmodes : ∀ mode ∈ modesWithoutOperand m, addressed mode = false := by cases m <;> decide
  exact hmodes mode h

/-- A handler raises in a mode of kind (a): its operand routine names the mode, but ADC and SBC check `P.D` first
(R148, R160). -/
theorem handlerOf_of_mem_modesWithoutOperand {m : Mnemonic} {o : Operand} (u : State)
    (h : o.mode ∈ modesWithoutOperand m) :
    handlerOf m o u = .error (if m ∈ [.adc, .sbc] ∧ flagIn u.p .D = true then .unimplementedSemantics .decimal
      else .invalidAddressForMode o.mode) := by
  have hresolve := resolveAddress_error o u (addressed_of_mem_modesWithoutOperand h)
  have hread (hmodes : modesWithoutOperand m = [.imp, .rel]) :
      readOperand o u = .error (.invalidAddressForMode o.mode) := by
    apply readOperand_error
    rwa [hmodes, List.mem_pair] at h
  cases m with
  | adc | sbc =>
    cases hD : flagIn u.p .D with
    | true => exact if_pos hD
    | false => exact (if_neg (Bool.eq_false_iff.1 hD)).trans (withOperand_error (hread rfl))
  | lda | ldx | ldy | and | ora | eor | cmp | cpx | cpy | bit => exact congrArg (Except.map _) (hread rfl)
  | sta | stx | sty | inc | dec | jmp | jsr => exact congrArg (Except.map _) hresolve
  | asl | lsr | rol | ror =>
    have hacc : o ≠ .acc := by
      rintro rfl
      exact absurd h (by decide)
    exact (congrFun (shiftWith_eq_map hacc) u).trans (congrArg (Except.map _) hresolve)
  | _ => cases h

/-- Settles O56: a record of kind (a) runs its handler, which raises, and it runs exactly where its operand bytes, its
length and its mode let it. -/
theorem illFormedRecords : Obligations.IllFormedRecords := by
  unfold Obligations.IllFormedRecords
  intro m r s hm
  have hexecute : executeRecord r s = executeKnown m r s := by rw [executeRecord, hm]
  rw [hexecute, executeKnown_eq_refused_iff]
  simp only [← mem_modesWithoutOperand_iff]
  have hbehaviour : hasBehaviour m r.mode = true ↔ admitted m r.mode = true ∨ r.mode ∈ modesWithoutOperand m := by
    rw [hasBehaviour, Bool.or_eq_true, List.contains_iff_mem]
  refine ⟨?kindA, by rw [hbehaviour]⟩
  rintro ⟨hbytes, hlen, hmode⟩
  obtain ⟨o, ho⟩ := Option.isSome_iff_exists.1 hbytes
  have hraise := handlerOf_of_mem_modesWithoutOperand (s.beginStep r.length) (operandFrom_mode ho ▸ hmode)
  rw [operandFrom_mode ho] at hraise
  refine ⟨_, ?_, rfl⟩
  rw [executeKnown_eq_runHandler s ho hlen (hbehaviour.2 (.inr hmode))]
  exact runHandler_error hraise

/-- Settles O55: the step of an opcode with no handler, for the length of the record. -/
theorem unknownMnemonicIsReportedNoOp : Obligations.UnknownMnemonicIsReportedNoOp := by
  unfold Obligations.UnknownMnemonicIsReportedNoOp
  intro r name s hname hmin hmax
  have hwf : r.wellFormed = true := by
    simp [Record.wellFormed, hname, hmin, hmax]
  simp only [executeRecord, hname, hwf, if_true]
  rfl

/-- Settles O54: the record carries its instruction's operand form, so it runs the same handler for the same length. -/
theorem execIsExecuteOfRecord : Obligations.ExecIsExecuteOfRecord := by
  unfold Obligations.ExecIsExecuteOfRecord
  intro i s
  have hbytes := operandFrom_bytes (operandOf i)
  have hlen := lengthFits_recordOf i
  refine ⟨?execute, ?wellFormed⟩
  case execute =>
    rw [exec_eq_runHandler]
    exact executeKnown_eq_runHandler s hbytes hlen (hasBehaviour_mnemonicOf i)
  case wellFormed =>
    have hfits : (recordOf i).operandBytesFit = true := Option.isSome_iff_exists.2 ⟨_, hbytes⟩
    exact Bool.and_eq_true_iff.2 ⟨Bool.and_eq_true_iff.2 ⟨admitted_mnemonicOf i, hfits⟩, hlen⟩

theorem outputs_diag (s : State) : (outputs s).diag = (reportCode s.report).code := rfl

/-- Settles O53: a transaction by its inputs, and the output `diag` by the last report. -/
theorem blockTransactions : Obligations.BlockTransactions := by
  unfold Obligations.BlockTransactions
  intro front inputs s
  refine ⟨fun hreset => ⟨if_pos hreset, if_pos hreset⟩, ?_, ?_, ?_, ⟨rfl, rfl, rfl, rfl, rfl, rfl⟩, ?_⟩
  · rintro hreset hstep rfl
    simp [transaction, hreset, hstep]
  · rintro hreset hstep rfl
    simp [transaction, hreset, hstep]
  · intro hreset hstep
    simp [transaction, hreset, hstep]
  · simp only [outputs_diag]
    rcases s.report with _ | (_ | _ | _) <;> simp [reportCode, Diagnostic.code, DiagCode.code]

end Sys2Proof.Machine
end

section
/-! Steps of both front ends (`60_exceptions.md` R158, R159, `20_memory.md` R41). Either runs a lawful handler in the
frame of `runHandler`; what raising does, that DIAG is sticky and that the invariant is kept follow from that alone, for
one step and for every history. -/

namespace Sys2Proof.Machine

/-- What every handler of the machine keeps where it completes: nothing is reported, and memory stays canonical. -/
structure Lawful (h : State → Except Diagnostic State) : Prop where
  status : ∀ u t, h u = .ok t → SameStatus u t
  wf : ∀ u t, h u = .ok t → u.mem.wf = true → t.mem.wf = true

/-- `t` ends a step of a lawful handler from `s`, with `PC` advanced by `n` before the handler. -/
def StepBy (n : Nat) (s t : State) : Prop := ∃ h, Lawful h ∧ runHandler n h s = .next t

theorem wf_replayWrites {l : List BusAccess} {m : Memory} (h : m.wf = true) : (replayWrites l m).wf = true := by
  induction l generalizing m with
  | nil => exact h
  | cons acc rest ih =>
    cases hwe : acc.we with
    | false => rw [replayWrites, hwe]; exact ih h
    | true => rw [replayWrites, hwe]; exact ih (m.wf_write acc.addr acc.data h)

theorem lawful_handlerOf (m : Mnemonic) (o : Operand) : Lawful (handlerOf m o) where
  status u t hok := (staysWithin_handlerOf m o u t hok).2
  wf u t hok hwf := by
    rw [(footprint_handlerOf m o).mem_eq hok]
    exact wf_replayWrites hwf

theorem lawful_error (d : Diagnostic) : Lawful (fun _ => .error d) where
  status _ _ hok := nomatch hok
  wf _ _ hok := nomatch hok

theorem stepBy_of_step {s t : State} (h : step s = .next t) : StepBy (fetchLength s) s t := by
  cases hfetch : fetchInstr s with
  | ok i =>
    have hlen : fetchLength s = lengthOf i := by
      rw [← length_encode, encode_of_fetchInstr hfetch, List.length_map, List.length_range]
    rw [step_eq_exec hfetch, exec_eq_runHandler] at h
    exact ⟨_, lawful_handlerOf _ _, by rwa [hlen]⟩
  | error opcode =>
    rw [step_eq_runIllegal hfetch] at h
    exact ⟨_, lawful_error _, by rwa [fetchLength_of_fetchInstr_eq_error hfetch]⟩

theorem stepBy_of_executeRecord {r : Record} {s t : State} (h : executeRecord r s = .next t) :
    StepBy r.length s t := by
  cases hop : r.opcode with
  | known m =>
    simp only [executeRecord, hop] at h
    by_cases hrun : r.operandBytesFit = true ∧ r.lengthFits = true ∧ hasBehaviour m r.mode = true
    · obtain ⟨hbytes, hlen, hb⟩ := hrun
      obtain ⟨o, ho⟩ := Option.isSome_iff_exists.1 hbytes
      rw [executeKnown_eq_runHandler s ho hlen hb] at h
      exact ⟨_, lawful_handlerOf m o, h⟩
    · rw [executeKnown_eq_refused s hrun] at h
      cases h
  | unknown name =>
    simp only [executeRecord, hop] at h
    by_cases hwf : r.wellFormed = true
    · rw [if_pos hwf] at h
      exact ⟨_, lawful_error _, h⟩
    · rw [if_neg hwf] at h
      cases h

namespace StepBy

variable {n : Nat} {s t : State}

/-- The two endings of a lawful step. -/
theorem endings (h : StepBy n s t) :
    (t.report = none ∧ t.diag = s.diag ∧ (s.mem.wf = true → t.mem.wf = true)) ∨
      ∃ d, t = (s.beginStep n).raise d := by
  obtain ⟨handler, hlawful, hrun⟩ := h
  rcases runHandler_cases hrun with hok | ⟨d, -, rfl⟩
  · obtain ⟨hdiag, hreport⟩ := hlawful.status _ _ hok
    exact .inl ⟨hreport, hdiag, hlawful.wf (s.beginStep n) t hok⟩
  · exact .inr ⟨d, rfl⟩

theorem eq_raise_of_report (h : StepBy n s t) {d : Diagnostic} (hreport : t.report = some d) :
    t = (s.beginStep n).raise d := by
  rcases h.endings with ⟨hnone, -, -⟩ | ⟨d', rfl⟩
  · rw [hnone] at hreport
    cases hreport
  · obtain rfl := Option.some.inj hreport
    rfl

/-- DIAG after a step: the code of the step's report is kept unless one was there (R159). -/
theorem diag_eq (h : StepBy n s t) : t.diag = stickyDiag s.diag (reportCode t.report) := by
  rcases h.endings with ⟨hnone, hdiag, -⟩ | ⟨d, rfl⟩
  · rw [hnone, hdiag, reportCode, stickyDiag]
    split
    · assumption
    · rfl
  · rfl

theorem diag_of_ne_none (h : StepBy n s t) (hdiag : s.diag ≠ .none) : t.diag = s.diag :=
  h.diag_eq.trans (if_neg hdiag)

theorem inv (h : StepBy n s t) (hinv : s.Inv) : t.Inv := by
  rcases h.endings with ⟨hnone, -, hwf⟩ | ⟨d, rfl⟩
  · exact ⟨hwf hinv.1, by rw [State.reportKept, hnone]; rfl⟩
  · refine ⟨hinv.1, ?_⟩
    have hcode : stickyDiag s.diag d.code ≠ .none := by
      unfold stickyDiag
      split
      · cases d <;> nofun
      · assumption
    simpa [State.reportKept] using hcode

end StepBy

/-- Settles O40: both front ends make lawful steps, and one that reports has raised. -/
theorem raisingStepIsNoOp : Obligations.RaisingStepIsNoOp := by
  unfold Obligations.RaisingStepIsNoOp
  intro s t d hreport
  exact ⟨fun h => (stepBy_of_step h).eq_raise_of_report hreport,
    fun r h => (stepBy_of_executeRecord h).eq_raise_of_report hreport⟩

/-- Settles O41: the law of DIAG for a lawful step, and the host's moves one by one. -/
theorem diagIsSticky : Obligations.DiagIsSticky := by
  unfold Obligations.DiagIsSticky
  refine ⟨fun s t h => ?step, fun action s => ?host⟩
  case step =>
    have hstep : ∃ n, StepBy n s t := by
      rcases h with h | ⟨r, h⟩
      · exact ⟨_, stepBy_of_step h⟩
      · exact ⟨_, stepBy_of_executeRecord h⟩
    obtain ⟨n, hstep⟩ := hstep
    exact ⟨hstep.diag_of_ne_none, fun hnone => hstep.diag_eq.trans (if_pos hnone)⟩
  case host =>
    cases action <;> rfl

/-- Settles O48: a step of the byte level is a lawful step. -/
theorem stepKeepsInv : Obligations.StepKeepsInv := by
  unfold Obligations.StepKeepsInv
  exact fun s t hinv h => (stepBy_of_step h).inv hinv

theorem hostAct_keeps_inv (action : HostAction) {s : State} (h : s.Inv) : (hostAct action s).Inv := by
  cases action with
  | poke addr v => exact ⟨s.mem.wf_write addr v h.1, h.2⟩
  | reset => exact ⟨h.1, rfl⟩
  | setA | setX | setY | setSP | setPC | setP => exact h

/-- An event is a move of the host or a lawful step. -/
theorem runEvent_cases {e : Event} {s t : State} (h : runEvent e s = .next t) :
    (∃ action, e = .host action ∧ t = hostAct action s) ∨ ∃ n, StepBy n s t := by
  cases e with
  | step => exact .inr ⟨_, stepBy_of_step h⟩
  | record r => exact .inr ⟨_, stepBy_of_executeRecord h⟩
  | host action => exact .inl ⟨action, rfl, (Host.Outcome.next.inj h).symm⟩

theorem runEvent_keeps_inv {e : Event} {s t : State} (h : runEvent e s = .next t) (hinv : s.Inv) : t.Inv := by
  rcases runEvent_cases h with ⟨action, -, rfl⟩ | ⟨n, hstep⟩
  · exact hostAct_keeps_inv action hinv
  · exact hstep.inv hinv

theorem runEvent_keeps_diag {e : Event} {s t : State} (h : runEvent e s = .next t) (hhost : ∀ action, .host action ≠ e)
    (hdiag : s.diag ≠ .none) : t.diag = s.diag := by
  rcases runEvent_cases h with ⟨action, rfl, -⟩ | ⟨n, hstep⟩
  · exact absurd rfl (hhost action)
  · exact hstep.diag_of_ne_none hdiag

/-- A history that runs to its end runs its first event and then the others. -/
theorem runEvents_cons {e : Event} {rest : List Event} {s t : State} (h : runEvents (e :: rest) s = .next t) :
    ∃ u, runEvent e s = .next u ∧ runEvents rest u = .next t := by
  cases he : runEvent e s with
  | next u => exact ⟨u, rfl, by simpa only [runEvents, he] using h⟩
  | fault f => cases f
  | refused r => simp only [runEvents, he, reduceCtorEq] at h

/-- Settles O49: by induction on the history, from what its first event keeps. -/
theorem historiesKeepInvAndDiag : Obligations.HistoriesKeepInvAndDiag := by
  unfold Obligations.HistoriesKeepInvAndDiag
  intro events s t h
  induction events generalizing s with
  | nil =>
    obtain rfl := Host.Outcome.next.inj h
    exact ⟨id, fun _ _ => rfl⟩
  | cons e rest ih =>
    obtain ⟨u, he, hrest⟩ := runEvents_cons h
    obtain ⟨hinv, hdiag⟩ := ih u hrest
    refine ⟨fun hs => hinv (runEvent_keeps_inv he hs), fun hhost hs => ?_⟩
    have hu : u.diag = s.diag := runEvent_keeps_diag he (fun action heq => hhost action (heq ▸ List.mem_cons_self)) hs
    rw [hdiag (fun action hmem => hhost action (List.mem_cons_of_mem e hmem)) (hu ▸ hs), hu]

end Sys2Proof.Machine
end

section
/-! The canonical form of memory (log entry 2), reset and power-on (`70_reset_and_hazards.md` R169, R170), and the
invariant in the states they leave. -/

namespace Sys2Proof.Machine

theorem cellsOrdered_cons {lo k : Nat} {v : Byte} {rest : List Host.Cell} :
    cellsOrdered lo ((k, v) :: rest) = true ↔
      lo ≤ k ∧ k < 65536 ∧ v ≠ Config.unlistedByte ∧ cellsOrdered (k + 1) rest = true := by
  simp only [cellsOrdered, Bool.and_eq_true, decide_eq_true_eq, bne_iff_ne, and_assoc]

/-- A list whose keys rise from `lo` on lists nothing below. -/
theorem lookupCell_of_lt (cells : List Host.Cell) {lo k : Nat} (h : cellsOrdered lo cells = true) (hk : k < lo) :
    lookupCell cells k = Config.unlistedByte := by
  induction cells generalizing lo with
  | nil => rfl
  | cons c rest ih =>
    obtain ⟨hlo, -, -, hrest⟩ := cellsOrdered_cons.1 h
    rw [lookupCell, if_neg (by omega)]
    exact ih hrest (by omega)

/-- What an ordered list lists lies at its first key or above. -/
theorem key_le_of_lookupCell_ne {lo k j : Nat} {v : Byte} {rest : List Host.Cell}
    (h : cellsOrdered lo ((k, v) :: rest) = true) (hj : lookupCell ((k, v) :: rest) j ≠ Config.unlistedByte) :
    k ≤ j := by
  obtain ⟨-, hkey⟩ := cellsOrdered_cons.1 h
  by_contra hlt
  exact hj (lookupCell_of_lt _ (cellsOrdered_cons.2 ⟨Nat.le_refl k, hkey⟩) (Nat.lt_of_not_le hlt))

/-- Ordered lists that answer the same at every address are the same: each first key is listed in the other list too, so
the first keys and their bytes agree, and nothing after them lists that key again. -/
theorem eq_of_lookupCell_eq {cells cells' : List Host.Cell} {lo : Nat} (h : cellsOrdered lo cells = true)
    (h' : cellsOrdered lo cells' = true) (hall : ∀ k < 65536, lookupCell cells k = lookupCell cells' k) :
    cells = cells' := by
  have hhead (k : Nat) (v : Byte) (rest : List Host.Cell) : lookupCell ((k, v) :: rest) k = v := if_pos rfl
  induction cells generalizing cells' lo with
  | nil =>
    cases cells' with
    | nil => rfl
    | cons c' rest' =>
      obtain ⟨-, hk', hv', -⟩ := cellsOrdered_cons.1 h'
      exact absurd ((hall _ hk').trans (hhead ..)).symm hv'
  | cons c rest ih =>
    obtain ⟨k, v⟩ := c
    obtain ⟨-, hk, hv, hrest⟩ := cellsOrdered_cons.1 h
    have hv_listed := (hall k hk).symm.trans (hhead k v rest)
    cases cells' with
    | nil => exact absurd hv_listed.symm hv
    | cons c' rest' =>
      obtain ⟨k', v'⟩ := c'
      obtain ⟨-, hk', hv', hrest'⟩ := cellsOrdered_cons.1 h'
      have hv'_listed := (hall k' hk').trans (hhead k' v' rest')
      obtain rfl : k = k' := Nat.le_antisymm (key_le_of_lookupCell_ne h (hv'_listed ▸ hv'))
        (key_le_of_lookupCell_ne h' (hv_listed ▸ hv))
      obtain rfl : v' = v := (hhead k v' rest').symm.trans hv_listed
      have hrests : ∀ j < 65536, lookupCell rest j = lookupCell rest' j := by
        intro j hj
        by_cases hjk : k = j
        · subst hjk
          rw [lookupCell_of_lt rest hrest (Nat.lt_succ_self k), lookupCell_of_lt rest' hrest' (Nat.lt_succ_self k)]
        · have := hall j hj
          rwa [lookupCell, if_neg hjk, lookupCell, if_neg hjk] at this
      rw [ih hrest hrest' hrests]

/-- Settles O46: equal reads are equal answers of the two lists. -/
theorem canonicalMemoriesAreEqual : Obligations.CanonicalMemoriesAreEqual := by
  unfold Obligations.CanonicalMemoriesAreEqual
  intro m n hm hn hread
  have hcells : m.cells = n.cells := eq_of_lookupCell_eq hm hn (fun k hk => by
    have h := hread (BitVec.ofNat 16 k)
    rwa [Memory.read, Memory.read, BitVec.toNat_ofNat, Nat.mod_eq_of_lt hk] at h)
  cases m
  cases n
  exact congrArg Memory.mk hcells

/-- Settles O47: memory is the one given, and nothing is reported. -/
theorem invHoldsAtReset : Obligations.InvHoldsAtReset := by
  unfold Obligations.InvHoldsAtReset
  exact ⟨⟨Memory.wf_nil, rfl⟩, fun m hm => ⟨hm, rfl⟩⟩

/-- Settles O50: what Reset leaves, field by field, does not depend on the registers before it. -/
theorem resetRestoresRegistersOnly : Obligations.ResetRestoresRegistersOnly := by
  unfold Obligations.ResetRestoresRegistersOnly
  exact fun s => ⟨⟨s.applyReset_a, s.applyReset_x, s.applyReset_y, s.applyReset_sp, s.applyReset_pc, s.applyReset_p,
    s.applyReset_diag, s.applyReset_mem⟩, rfl⟩

/-- Settles O51: both states are the reset registers over the memory given. -/
theorem powerOnIsResetOverAnyMemory : Obligations.PowerOnIsResetOverAnyMemory := by
  unfold Obligations.PowerOnIsResetOverAnyMemory
  exact fun m s => ⟨rfl, rfl, fun addr => rfl⟩

end Sys2Proof.Machine
end

section
/-! Laws that join two operations: one resolution and two of the shifts (`40_addressing_and_operands.md` R72,
`43_shift_rotate.md` R95), rotation and its inverse, call and return (`46_control_transfer.md` R120, R121). -/

namespace Sys2Proof.Machine

/-- Settles O14: the carry that is written first moves no address. -/
theorem singleResolutionIsTwoResolutions : Obligations.SingleResolutionIsTwoResolutions := by
  unfold Obligations.SingleResolutionIsTwoResolutions
  intro f o s b hread
  by_cases hacc : o.mode = .acc
  · obtain rfl := Operand.mode_eq_acc_iff.1 hacc
    obtain rfl := Except.ok.inj hread
    rfl
  · have hcarry (v : Bool) : resolveAddress o (s.setFlag .C v) = resolveAddress o s :=
      resolveAddress_congr o rfl rfl rfl
    rw [writeResult_eq_map _ _ hacc, hcarry, shiftWith_eq_map (mt Operand.mode_eq_acc_iff.2 hacc)]
    cases hea : resolveAddress o s with
    | error d => simp only [hea]; rfl
    | ok ea =>
      obtain rfl := Except.ok.inj (hread.symm.trans (readOperand_of_address o s hea))
      simp only [hea]
      rfl

/-- ROR takes back what ROL has moved: bit 7 from the carry, and the carry in from bit 0. -/
theorem rorFn_rolFn (b : Byte) (c : Bool) : rorFn (rolFn b c).1 (rolFn b c).2 = (b, c) := by
  have hc := bitOf_lt_two c
  have hcarry : bitOf (rolFn b c).2 = b.toNat / 128 := by
    have hbit : (rolFn b c).2 = decide (128 ≤ b.toNat) := getLsbD_seven_eq_decide b
    simp only [hbit, bitOf, decide_eq_true_eq]
    split <;> omega
  refine Prod.ext (BitVec.eq_of_toNat_eq ?byte) ?carry
  case byte =>
    rw [toNat_rorFn, toNat_rolFn, hcarry]
    show _ = b.toNat
    omega
  case carry =>
    have hlow : (2 * b.toNat + bitOf c) % 256 % 2 = bitOf c := by omega
    rw [rorFn, getLsbD_zero_eq_decide, toNat_rolFn, hlow]
    cases c <;> rfl

/-- Settles O23: each function by its own arithmetic, in the natural numbers. -/
theorem shiftFunctions : Obligations.ShiftFunctions := by
  unfold Obligations.ShiftFunctions
  exact fun b c => ⟨⟨toNat_shiftLeft_one b, getLsbD_seven_eq_decide b⟩,
    ⟨toNat_shiftRight_one b, getLsbD_zero_eq_decide b⟩, ⟨toNat_rolFn b c, getLsbD_seven_eq_decide b⟩,
    ⟨toNat_rorFn b c, getLsbD_zero_eq_decide b⟩, rorFn_rolFn b c⟩

theorem joinBytes_hiByte_loByte (w : Addr) : joinBytes (hiByte w) (loByte w) = w := by
  apply BitVec.eq_of_toNat_eq
  rw [toNat_joinBytes, hiByte, loByte, BitVec.toNat_ofNat, BitVec.toNat_ofNat]
  omega

section ReturnAddress
variable (s : State)

/-- JSR's second push leaves the byte of the first, for the two stack addresses differ. -/
theorem memRead_pushReturnAddress_high : s.pushReturnAddress.memRead (stackAddress s.sp) = hiByte (s.pc - 1) := by
  have hsp : s.sp ≠ s.sp - 1 := by bv_omega
  exact (Memory.read_write_ne _ _ (stackAddress_injective.ne hsp)).trans (s.mem.read_write_same _ _)

theorem memRead_pushReturnAddress_low : s.pushReturnAddress.memRead (stackAddress (s.sp - 1)) = loByte (s.pc - 1) :=
  Memory.read_write_same _ _ _

end ReturnAddress

/-- Settles O35: RTS joins the two bytes that JSR pushed, the address of the call's last byte, and adds 1. -/
theorem returnGoesBehindTheCall : Obligations.ReturnGoesBehindTheCall := by
  unfold Obligations.ReturnGoesBehindTheCall
  intro op1 op2 s t v hjsr hsp hhigh hlow
  rw [exec_jsr] at hjsr
  obtain rfl := Host.Outcome.next.inj hjsr
  have hsp1 : v.sp + 1 = s.sp - 1 := (congrArg (· + 1) hsp).trans (BitVec.sub_add_cancel (s.sp - 1) 1)
  have hsp2 : v.sp + 1 + 1 = s.sp := (congrArg (· + 1) hsp1).trans (BitVec.sub_add_cancel s.sp 1)
  have hpulledLow : v.pulled = loByte (s.pc + 3 - 1) := by
    rw [State.pulled, hsp1, hlow]
    exact memRead_pushReturnAddress_low (s.past (.jsr op1 op2))
  have hpulledHigh : v.afterPull.pulled = hiByte (s.pc + 3 - 1) := by
    rw [State.pulled, State.afterPull_sp, hsp2]
    exact hhigh.trans (memRead_pushReturnAddress_high (s.past (.jsr op1 op2)))
  refine ⟨_, exec_rts v, ?pc, hsp2⟩
  case pc =>
    rw [State.setPC_pc, hpulledLow, hpulledHigh, joinBytes_hiByte_loByte]
    exact BitVec.sub_add_cancel (s.pc + 3) 1

end Sys2Proof.Machine
end
